-- ==== Sys2Proof/Word.lean ====
section
/-!
DEFINITION. The word types of the teensy-lidar CORE: bytes, 16-bit fields, 32-bit register words,
12-bit bus addresses and 16-bit event words (00_scope.md R11, 20_memory.md R71, R72, 30_encoding.md R101).
-/

namespace Sys2Proof

/-- A byte (u8). -/
abbrev Byte := BitVec 8

/-- A 16-bit value (u16, or s16 read with `BitVec.toInt`). -/
abbrev Half := BitVec 16

/-- A 32-bit register, bus or record word. -/
abbrev Word := BitVec 32

/-- A 12-bit byte address of the register space (20_memory.md R72). -/
abbrev Addr := BitVec 12

/-- A 16-bit event word (30_encoding.md R101). -/
abbrev EventWord := BitVec 16

end Sys2Proof
end

