-- ==== Sys2Proof/Config.lean ====
section
/-!
DEFINITION. The build-time parameters of 00_scope.md R7, as the configuration every decode, operation and step takes
(R7, R19): a machine carries its configuration beside its state, and nothing changes it while the block runs (log 9). The
values of this hardware are `Sys2Proof.Machine.hardware`.
-/

namespace Sys2Proof

/-- NSAMP, samples per packet: 12 only (00_scope.md R7, 42_geometry.md R153). -/
abbrev NSAMP : Nat := 12

/-- The largest legal NCH (00_scope.md R7): a channel index is a 3-bit field (30_encoding.md R99). -/
abbrev MAX_NCH : Nat := 8

/-- A channel index c; the channels of a block are those with c < NCH (00_scope.md R9). -/
abbrev Chan := Fin MAX_NCH

/-- The index k of a sample of a packet, 0..11 (10_state.md R25). -/
abbrev SampleIx := Fin NSAMP

/-- CRC_TABLE: any 256 bytes. Row r holds entries 16*r to 16*r+15, the first entry most significant (40_crc.md R121). -/
structure CrcTable where
  rows : Vector (BitVec 128) 16
  deriving DecidableEq, Repr

/-- TRIG_Q: 16385 entries. Row j/64 holds 64 entries of 16 bits, the first entry most significant, in 16 blocks of 16
rows; entry 16384 stands alone (42_geometry.md R162, R163). -/
structure SineRom where
  blocks : Vector (Vector (BitVec 1024) 16) 16
  top : Half
  deriving DecidableEq, Repr

/-- The build-time parameters (00_scope.md R7). -/
structure Config where
  /-- NCH, the number of sensor channels -/
  nch : Nat
  /-- PKT_LEN, bytes per wire packet, marker and checksum included -/
  pktLen : Nat
  /-- MARKER, the start-marker byte -/
  marker : Byte
  /-- OUT_DEPTH, the depth of the output FIFO in records -/
  outDepth : Nat
  /-- CRC_TABLE, the CRC substitution table -/
  crcTable : CrcTable
  /-- TRIG_Q, the quarter-wave sine ROM -/
  trigQ : SineRom
  deriving DecidableEq, Repr

/-- The legal values of the sizes (00_scope.md R7). Every MARKER and every CRC_TABLE is legal; what R163 and R164 ask of
TRIG_Q is `Sys2Proof.Machine.LegalRom`. -/
abbrev Config.Legal (cfg : Config) : Prop :=
  1 ≤ cfg.nch ∧ cfg.nch ≤ MAX_NCH ∧ 47 ≤ cfg.pktLen ∧ cfg.pktLen ≤ 64 ∧ 1 ≤ cfg.outDepth ∧ cfg.outDepth ≤ 255

end Sys2Proof
end

