-- ==== Sys2Proof/Machine/Crc.lean ====
section
/-!
DEFINITION. The CRC-8 engine (40_crc.md). Every function takes the substitution table as an argument, since CRC_TABLE is a
parameter of the configuration (R121); the table of this hardware is `defaultCrcTable` (log 10).
-/

namespace Sys2Proof

/-- CRC_TABLE[n] (40_crc.md R121). -/
def CrcTable.entry (t : CrcTable) (n : Byte) : Byte :=
  (t.rows[(n.extractLsb' 4 4).toFin]).extractLsb' (8 * (15 - (n.extractLsb' 0 4).toNat)) 8

/-- CRC_TABLE of a configuration, as the function n to CRC_TABLE[n]. -/
def Config.crc (cfg : Config) : Byte → Byte := cfg.crcTable.entry

end Sys2Proof

namespace Sys2Proof.Machine

/-- CRC_TABLE, the default instance of R121, as the listing gives it (UNVERIFIED, log 10). -/
def defaultCrcTable : CrcTable :=
  { rows :=
    #v[0x004D9AD77934E3AEF2BF68258BC6115C#128,
      0xA9E4337ED09D4A075B16C18C226FB8F5#128,
      0x1F5285C8662BFCB1EDA0773A94D90E43#128,
      0xB6FB2C61CF8255184409DE933D70A7EA#128,
      0x3E73A4E9470ADD90CC81561BB5F82F62#128,
      0x97DA0D40EEA374396528FFB21C5186CB#128,
      0x216CBBF65815C28FD39E4904AAE7307D#128,
      0x88C5125FF1BC6B267A37E0AD034E99D4#128,
      0x7C31E6AB05489FD28EC31459F7BA6D20#128,
      0xD5984F02ACE1367B276ABDF05E13C489#128,
      0x632EF9B41A5780CD91DC0B46E8A5723F#128,
      0xCA87501DB3FE29643875A2EF410CDB96#128,
      0x420FD8953B76A1ECB0FD2A67C984531E#128,
      0xEBA6713C92DF0845195483CE602DFAB7#128,
      0x5D10C78A2469BEF3AFE23578D69B4C01#128,
      0xF4B96E238DC0175A064B9CD17F32E5A8#128] }

/-- CRC_STEP: the running value after one more byte (R122, R123). -/
def crcStep (table : Byte → Byte) (r b : Byte) : Byte := table (r ^^^ b)

/-- CRC of a byte sequence, seeded at 0 (R122). -/
def crcOf (table : Byte → Byte) (bytes : List Byte) : Byte := bytes.foldl (crcStep table) 0x00#8

/-- One of the eight shift steps of the generator of the default table: polynomial 0x4D, most significant bit first
(R121). -/
def crcShift (v : Byte) : Byte := if v.getLsbD 7 then (v <<< 1) ^^^ 0x4D#8 else v <<< 1

/-- Entry n of the default table by the generator of R121. -/
def crcEntry (n : Byte) : Byte := Nat.repeat crcShift 8 n

end Sys2Proof.Machine
end

