-- ==== Sys2Proof/Machine/TrigRom.lean ====
section
/-!
DEFINITION. TRIG_Q, the quarter-wave sine ROM of 42_geometry.md R163, a parameter of the configuration, and its default
instance, this hardware's: entry j is the integer nearest to 16384 * sin(2*pi*j/65536). Lean cannot compute sin; the
entries were computed outside Lean from that definition, and agree with every entry R163 lists (UNVERIFIED, log 11). The
functions of Machine/Geometry.lean take the ROM as an argument; nothing but the values of records depends on it.
-/

namespace Sys2Proof

/-- TRIG_Q[j] for 0 <= j <= 16384; entry 16384 is the last (42_geometry.md R162, R163). -/
def SineRom.entry (r : SineRom) (j : Nat) : Nat :=
  if j < 16384 then
    let i := BitVec.ofNat 14 j
    let row := (r.blocks[(i.extractLsb' 10 4).toFin])[(i.extractLsb' 6 4).toFin]
    (row.extractLsb' (16 * (63 - (i.extractLsb' 0 6).toNat)) 16).toNat
  else r.top.toNat

/-- TRIG_Q of a configuration, as the function j to TRIG_Q[j]. -/
def Config.sine (cfg : Config) : Nat → Nat := cfg.trigQ.entry

end Sys2Proof

namespace Sys2Proof.Machine

/-- Entries 0 to 1023 of TRIG_Q: 16 rows of 64 entries of 16 bits, the first entry of a row most significant. -/
def trigRows0 : Vector (BitVec 1024) 16 :=
  #v[0x0000000200030005000600080009000B000D000E0010001100130014001600180019001B001C001E001F002100230024002600270029002A002C002E002F003100320034003500370039003A003C003D003F004000420044004500470048004A004B004D004F005000520053005500560058005A005B005D005E006000610063#1024,
   0x0065006600680069006B006C006E0070007100730074007600770079007B007C007E007F008100820084008600870089008A008C008D008F009100920094009500970098009A009C009D009F00A000A200A300A500A700A800AA00AB00AD00AE00B000B100B300B500B600B800B900BB00BC00BE00C000C100C300C400C600C7#1024,
   0x00C900CB00CC00CE00CF00D100D200D400D600D700D900DA00DC00DD00DF00E100E200E400E500E700E800EA00EC00ED00EF00F000F200F300F500F700F800FA00FB00FD00FE0100010201030105010601080109010B010D010E0110011101130114011601180119011B011C011E011F012101230124012601270129012A012C#1024,
   0x012E012F013101320134013501370139013A013C013D013F014001420144014501470148014A014B014D014F015001520153015501560158015A015B015D015E0160016101630165016601680169016B016C016E0170017101730174017601770179017B017C017E017F018101820184018601870189018A018C018D018F0191#1024,
   0x01920194019501970198019A019C019D019F01A001A201A301A501A601A801AA01AB01AD01AE01B001B101B301B501B601B801B901BB01BC01BE01C001C101C301C401C601C701C901CB01CC01CE01CF01D101D201D401D601D701D901DA01DC01DD01DF01E101E201E401E501E701E801EA01EC01ED01EF01F001F201F301F5#1024,
   0x01F701F801FA01FB01FD01FE0200020202030205020602080209020B020D020E0210021102130214021602180219021B021C021E021F022102230224022602270229022A022C022E022F023102320234023502370239023A023C023D023F024002420244024502470248024A024B024D024E0250025202530255025602580259#1024,
   0x025B025D025E0260026102630264026602680269026B026C026E026F027102730274027602770279027A027C027E027F028102820284028502870289028A028C028D028F029002920294029502970298029A029B029D029F02A002A202A302A502A602A802AA02AB02AD02AE02B002B102B302B502B602B802B902BB02BC02BE#1024,
   0x02C002C102C302C402C602C702C902CA02CC02CE02CF02D102D202D402D502D702D902DA02DC02DD02DF02E002E202E402E502E702E802EA02EB02ED02EF02F002F202F302F502F602F802FA02FB02FD02FE0300030103030305030603080309030B030C030E0310031103130314031603170319031B031C031E031F03210322#1024,
   0x0324032503270329032A032C032D032F033003320334033503370338033A033B033D033F034003420343034503460348034A034B034D034E0350035103530355035603580359035B035C035E0360036103630364036603670369036B036C036E036F037103720374037503770379037A037C037D037F03800382038403850387#1024,
   0x0388038A038B038D038F039003920393039503960398039A039B039D039E03A003A103A303A503A603A803A903AB03AC03AE03B003B103B303B403B603B703B903BB03BC03BE03BF03C103C203C403C503C703C903CA03CC03CD03CF03D003D203D403D503D703D803DA03DB03DD03DF03E003E203E303E503E603E803EA03EB#1024,
   0x03ED03EE03F003F103F303F503F603F803F903FB03FC03FE03FF040104030404040604070409040A040C040E040F041104120414041504170419041A041C041D041F042004220424042504270428042A042B042D042F0430043204330435043604380439043B043D043E0440044104430444044604480449044B044C044E044F#1024,
   0x045104530454045604570459045A045C045E045F046104620464046504670469046A046C046D046F047004720473047504770478047A047B047D047E0480048204830485048604880489048B048D048E0490049104930494049604980499049B049C049E049F04A104A204A404A604A704A904AA04AC04AD04AF04B104B204B4#1024,
   0x04B504B704B804BA04BC04BD04BF04C004C204C304C504C704C804CA04CB04CD04CE04D004D104D304D504D604D804D904DB04DC04DE04E004E104E304E404E604E704E904EB04EC04EE04EF04F104F204F404F604F704F904FA04FC04FD04FF050005020504050505070508050A050B050D050F051005120513051505160518#1024,
   0x051A051B051D051E0520052105230524052605280529052B052C052E052F053105330534053605370539053A053C053E053F054105420544054505470548054A054C054D054F055005520553055505570558055A055B055D055E0560056205630565056605680569056B056C056E0570057105730574057605770579057B057C#1024,
   0x057E057F058105820584058605870589058A058C058D058F059005920594059505970598059A059B059D059F05A005A205A305A505A605A805AA05AB05AD05AE05B005B105B305B405B605B805B905BB05BC05BE05BF05C105C305C405C605C705C905CA05CC05CE05CF05D105D205D405D505D705D805DA05DC05DD05DF05E0#1024,
   0x05E205E305E505E705E805EA05EB05ED05EE05F005F105F305F505F605F805F905FB05FC05FE0600060106030604060606070609060A060C060E060F061106120614061506170619061A061C061D061F062006220624062506270628062A062B062D062E0630063206330635063606380639063B063D063E0640064106430644#1024]

/-- Entries 1024 to 2047 of TRIG_Q: 16 rows of 64 entries of 16 bits, the first entry of a row most significant. -/
def trigRows1 : Vector (BitVec 1024) 16 :=
  #v[0x064606470649064B064C064E064F065106520654065606570659065A065C065D065F066006620664066506670668066A066B066D066F0670067206730675067606780679067B067D067E0680068106830684068606880689068B068C068E068F069106920694069606970699069A069C069D069F06A106A206A406A506A706A8#1024,
   0x06AA06AB06AD06AF06B006B206B306B506B606B806BA06BB06BD06BE06C006C106C306C406C606C806C906CB06CC06CE06CF06D106D306D406D606D706D906DA06DC06DD06DF06E106E206E406E506E706E806EA06EC06ED06EF06F006F206F306F506F606F806FA06FB06FD06FE0700070107030705070607080709070B070C#1024,
   0x070E070F071107130714071607170719071A071C071D071F072107220724072507270728072A072C072D072F073007320733073507360738073A073B073D073E0740074107430745074607480749074B074C074E074F075107530754075607570759075A075C075D075F076107620764076507670768076A076C076D076F0770#1024,
   0x07720773077507760778077A077B077D077E0780078107830784078607880789078B078C078E078F079107930794079607970799079A079C079D079F07A107A207A407A507A707A807AA07AB07AD07AF07B007B207B307B507B607B807BA07BB07BD07BE07C007C107C307C407C607C807C907CB07CC07CE07CF07D107D207D4#1024,
   0x07D607D707D907DA07DC07DD07DF07E007E207E407E507E707E807EA07EB07ED07EF07F007F207F307F507F607F807F907FB07FD07FE0800080108030804080608070809080B080C080E080F081108120814081508170819081A081C081D081F082008220824082508270828082A082B082D082E083008320833083508360838#1024,
   0x0839083B083C083E0840084108430844084608470849084A084C084E084F085108520854085508570858085A085C085D085F086008620863086508660868086A086B086D086E0870087108730874087608780879087B087C087E087F088108830884088608870889088A088C088D088F089108920894089508970898089A089B#1024,
   0x089D089F08A008A208A308A508A608A808A908AB08AD08AE08B008B108B308B408B608B708B908BB08BC08BE08BF08C108C208C408C508C708C908CA08CC08CD08CF08D008D208D308D508D708D808DA08DB08DD08DE08E008E108E308E508E608E808E908EB08EC08EE08EF08F108F308F408F608F708F908FA08FC08FD08FF#1024,
   0x090109020904090509070908090A090B090D090F0910091209130915091609180919091B091D091E0920092109230924092609270929092B092C092E092F093109320934093509370939093A093C093D093F094009420943094509470948094A094B094D094E0950095109530954095609580959095B095C095E095F09610962#1024,
   0x0964096609670969096A096C096D096F097009720974097509770978097A097B097D097E0980098209830985098609880989098B098C098E0990099109930994099609970999099A099C099E099F09A109A209A409A509A709A809AA09AB09AD09AF09B009B209B309B509B609B809B909BB09BD09BE09C009C109C309C409C6#1024,
   0x09C709C909CB09CC09CE09CF09D109D209D409D509D709D909DA09DC09DD09DF09E009E209E309E509E609E809EA09EB09ED09EE09F009F109F309F409F609F809F909FB09FC09FE09FF0A010A020A040A060A070A090A0A0A0C0A0D0A0F0A100A120A130A150A170A180A1A0A1B0A1D0A1E0A200A210A230A250A260A280A29#1024,
   0x0A2B0A2C0A2E0A2F0A310A320A340A360A370A390A3A0A3C0A3D0A3F0A400A420A440A450A470A480A4A0A4B0A4D0A4E0A500A510A530A550A560A580A590A5B0A5C0A5E0A5F0A610A630A640A660A670A690A6A0A6C0A6D0A6F0A700A720A740A750A770A780A7A0A7B0A7D0A7E0A800A820A830A850A860A880A890A8B0A8C#1024,
   0x0A8E0A8F0A910A930A940A960A970A990A9A0A9C0A9D0A9F0AA10AA20AA40AA50AA70AA80AAA0AAB0AAD0AAE0AB00AB20AB30AB50AB60AB80AB90ABB0ABC0ABE0AC00AC10AC30AC40AC60AC70AC90ACA0ACC0ACD0ACF0AD10AD20AD40AD50AD70AD80ADA0ADB0ADD0ADE0AE00AE20AE30AE50AE60AE80AE90AEB0AEC0AEE0AEF#1024,
   0x0AF10AF30AF40AF60AF70AF90AFA0AFC0AFD0AFF0B010B020B040B050B070B080B0A0B0B0B0D0B0E0B100B120B130B150B160B180B190B1B0B1C0B1E0B1F0B210B230B240B260B270B290B2A0B2C0B2D0B2F0B300B320B340B350B370B380B3A0B3B0B3D0B3E0B400B410B430B450B460B480B490B4B0B4C0B4E0B4F0B510B52#1024,
   0x0B540B560B570B590B5A0B5C0B5D0B5F0B600B620B630B650B670B680B6A0B6B0B6D0B6E0B700B710B730B740B760B780B790B7B0B7C0B7E0B7F0B810B820B840B850B870B890B8A0B8C0B8D0B8F0B900B920B930B950B960B980B9A0B9B0B9D0B9E0BA00BA10BA30BA40BA60BA70BA90BAB0BAC0BAE0BAF0BB10BB20BB40BB5#1024,
   0x0BB70BB80BBA0BBC0BBD0BBF0BC00BC20BC30BC50BC60BC80BC90BCB0BCD0BCE0BD00BD10BD30BD40BD60BD70BD90BDA0BDC0BDE0BDF0BE10BE20BE40BE50BE70BE80BEA0BEB0BED0BEF0BF00BF20BF30BF50BF60BF80BF90BFB0BFC0BFE0BFF0C010C030C040C060C070C090C0A0C0C0C0D0C0F0C100C120C140C150C170C18#1024,
   0x0C1A0C1B0C1D0C1E0C200C210C230C240C260C280C290C2B0C2C0C2E0C2F0C310C320C340C350C370C390C3A0C3C0C3D0C3F0C400C420C430C450C460C480C4A0C4B0C4D0C4E0C500C510C530C540C560C570C590C5A0C5C0C5E0C5F0C610C620C640C650C670C680C6A0C6B0C6D0C6E0C700C720C730C750C760C780C790C7B#1024]

/-- Entries 2048 to 3071 of TRIG_Q: 16 rows of 64 entries of 16 bits, the first entry of a row most significant. -/
def trigRows2 : Vector (BitVec 1024) 16 :=
  #v[0x0C7C0C7E0C7F0C810C830C840C860C870C890C8A0C8C0C8D0C8F0C900C920C930C950C970C980C9A0C9B0C9D0C9E0CA00CA10CA30CA40CA60CA70CA90CAB0CAC0CAE0CAF0CB10CB20CB40CB50CB70CB80CBA0CBC0CBD0CBF0CC00CC20CC30CC50CC60CC80CC90CCB0CCC0CCE0CD00CD10CD30CD40CD60CD70CD90CDA0CDC0CDD#1024,
   0x0CDF0CE00CE20CE40CE50CE70CE80CEA0CEB0CED0CEE0CF00CF10CF30CF40CF60CF80CF90CFB0CFC0CFE0CFF0D010D020D040D050D070D080D0A0D0C0D0D0D0F0D100D120D130D150D160D180D190D1B0D1C0D1E0D1F0D210D230D240D260D270D290D2A0D2C0D2D0D2F0D300D320D330D350D370D380D3A0D3B0D3D0D3E0D40#1024,
   0x0D410D430D440D460D470D490D4B0D4C0D4E0D4F0D510D520D540D550D570D580D5A0D5B0D5D0D5F0D600D620D630D650D660D680D690D6B0D6C0D6E0D6F0D710D720D740D760D770D790D7A0D7C0D7D0D7F0D800D820D830D850D860D880D8A0D8B0D8D0D8E0D900D910D930D940D960D970D990D9A0D9C0D9D0D9F0DA10DA2#1024,
   0x0DA40DA50DA70DA80DAA0DAB0DAD0DAE0DB00DB10DB30DB40DB60DB80DB90DBB0DBC0DBE0DBF0DC10DC20DC40DC50DC70DC80DCA0DCB0DCD0DCF0DD00DD20DD30DD50DD60DD80DD90DDB0DDC0DDE0DDF0DE10DE20DE40DE60DE70DE90DEA0DEC0DED0DEF0DF00DF20DF30DF50DF60DF80DF90DFB0DFD0DFE0E000E010E030E04#1024,
   0x0E060E070E090E0A0E0C0E0D0E0F0E100E120E140E150E170E180E1A0E1B0E1D0E1E0E200E210E230E240E260E270E290E2B0E2C0E2E0E2F0E310E320E340E350E370E380E3A0E3B0E3D0E3E0E400E420E430E450E460E480E490E4B0E4C0E4E0E4F0E510E520E540E550E570E580E5A0E5C0E5D0E5F0E600E620E630E650E66#1024,
   0x0E680E690E6B0E6C0E6E0E6F0E710E720E740E760E770E790E7A0E7C0E7D0E7F0E800E820E830E850E860E880E890E8B0E8C0E8E0E900E910E930E940E960E970E990E9A0E9C0E9D0E9F0EA00EA20EA30EA50EA60EA80EAA0EAB0EAD0EAE0EB00EB10EB30EB40EB60EB70EB90EBA0EBC0EBD0EBF0EC00EC20EC40EC50EC70EC8#1024,
   0x0ECA0ECB0ECD0ECE0ED00ED10ED30ED40ED60ED70ED90EDA0EDC0EDE0EDF0EE10EE20EE40EE50EE70EE80EEA0EEB0EED0EEE0EF00EF10EF30EF40EF60EF70EF90EFB0EFC0EFE0EFF0F010F020F040F050F070F080F0A0F0B0F0D0F0E0F100F110F130F150F160F180F190F1B0F1C0F1E0F1F0F210F220F240F250F270F280F2A#1024,
   0x0F2B0F2D0F2E0F300F310F330F350F360F380F390F3B0F3C0F3E0F3F0F410F420F440F450F470F480F4A0F4B0F4D0F4E0F500F520F530F550F560F580F590F5B0F5C0F5E0F5F0F610F620F640F650F670F680F6A0F6B0F6D0F6F0F700F720F730F750F760F780F790F7B0F7C0F7E0F7F0F810F820F840F850F870F880F8A0F8B#1024,
   0x0F8D0F8F0F900F920F930F950F960F980F990F9B0F9C0F9E0F9F0FA10FA20FA40FA50FA70FA80FAA0FAB0FAD0FAF0FB00FB20FB30FB50FB60FB80FB90FBB0FBC0FBE0FBF0FC10FC20FC40FC50FC70FC80FCA0FCB0FCD0FCE0FD00FD20FD30FD50FD60FD80FD90FDB0FDC0FDE0FDF0FE10FE20FE40FE50FE70FE80FEA0FEB0FED#1024,
   0x0FEE0FF00FF10FF30FF50FF60FF80FF90FFB0FFC0FFE0FFF100110021004100510071008100A100B100D100E1010101110131014101610171019101B101C101E101F102110221024102510271028102A102B102D102E1030103110331034103610371039103A103C103D103F104110421044104510471048104A104B104D104E#1024,
   0x1050105110531054105610571059105A105C105D105F106010621063106510661068106A106B106D106E1070107110731074107610771079107A107C107D107F1080108210831085108610881089108B108C108E108F109110931094109610971099109A109C109D109F10A010A210A310A510A610A810A910AB10AC10AE10AF#1024,
   0x10B110B210B410B510B710B810BA10BB10BD10BE10C010C210C310C510C610C810C910CB10CC10CE10CF10D110D210D410D510D710D810DA10DB10DD10DE10E010E110E310E410E610E710E910EA10EC10ED10EF10F110F210F410F510F710F810FA10FB10FD10FE1100110111031104110611071109110A110C110D110F1110#1024,
   0x111211131115111611181119111B111C111E111F112111221124112511271129112A112C112D112F1130113211331135113611381139113B113C113E113F114111421144114511471148114A114B114D114E1150115111531154115611571159115A115C115D115F116011621164116511671168116A116B116D116E11701171#1024,
   0x11731174117611771179117A117C117D117F1180118211831185118611881189118B118C118E118F119111921194119511971198119A119B119D119E11A011A111A311A411A611A711A911AB11AC11AE11AF11B111B211B411B511B711B811BA11BB11BD11BE11C011C111C311C411C611C711C911CA11CC11CD11CF11D011D2#1024,
   0x11D311D511D611D811D911DB11DC11DE11DF11E111E211E411E511E711E811EA11EB11ED11EE11F011F111F311F411F611F711F911FA11FC11FD11FF120112021204120512071208120A120B120D120E1210121112131214121612171219121A121C121D121F1220122212231225122612281229122B122C122E122F12311232#1024,
   0x1234123512371238123A123B123D123E1240124112431244124612471249124A124C124D124F1250125212531255125612581259125B125C125E125F126112621264126512671268126A126B126D126E1270127112731274127612771279127A127C127D127F128012821283128512861288128A128B128D128E129012911293#1024]

/-- Entries 3072 to 4095 of TRIG_Q: 16 rows of 64 entries of 16 bits, the first entry of a row most significant. -/
def trigRows3 : Vector (BitVec 1024) 16 :=
  #v[0x1294129612971299129A129C129D129F12A012A212A312A512A612A812A912AB12AC12AE12AF12B112B212B412B512B712B812BA12BB12BD12BE12C012C112C312C412C612C712C912CA12CC12CD12CF12D012D212D312D512D612D812D912DB12DC12DE12DF12E112E212E412E512E712E812EA12EB12ED12EE12F012F112F3#1024,
   0x12F412F612F712F912FA12FC12FD12FF1300130213031305130613081309130B130C130E130F131113121314131513171318131A131B131D131E1320132113231324132613271329132A132C132D132F1330133213331335133613381339133B133C133E133F134113421344134513471348134A134B134D134E135013511353#1024,
   0x1354135613571359135A135C135D135F1360136213631365136613681369136B136C136E136F1371137213741375137613781379137B137C137E137F138113821384138513871388138A138B138D138E1390139113931394139613971399139A139C139D139F13A013A213A313A513A613A813A913AB13AC13AE13AF13B113B2#1024,
   0x13B413B513B713B813BA13BB13BD13BE13C013C113C313C413C613C713C913CA13CC13CD13CF13D013D213D313D513D613D813D913DB13DC13DE13DF13E113E213E413E513E713E813EA13EB13ED13EE13F013F113F313F413F613F713F913FA13FB13FD13FE1400140114031404140614071409140A140C140D140F14101412#1024,
   0x14131415141614181419141B141C141E141F142114221424142514271428142A142B142D142E1430143114331434143614371439143A143C143D143F1440144214431445144614481449144B144C144D144F1450145214531455145614581459145B145C145E145F146114621464146514671468146A146B146D146E14701471#1024,
   0x14731474147614771479147A147C147D147F1480148214831485148614881489148B148C148E148F1490149214931495149614981499149B149C149E149F14A114A214A414A514A714A814AA14AB14AD14AE14B014B114B314B414B614B714B914BA14BC14BD14BF14C014C214C314C514C614C714C914CA14CC14CD14CF14D0#1024,
   0x14D214D314D514D614D814D914DB14DC14DE14DF14E114E214E414E514E714E814EA14EB14ED14EE14F014F114F314F414F614F714F814FA14FB14FD14FE1500150115031504150615071509150A150C150D150F1510151215131515151615181519151B151C151E151F1521152215241525152615281529152B152C152E152F#1024,
   0x153115321534153515371538153A153B153D153E1540154115431544154615471549154A154C154D154E1550155115531554155615571559155A155C155D155F1560156215631565156615681569156B156C156E156F1571157215731575157615781579157B157C157E157F158115821584158515871588158A158B158D158E#1024,
   0x1590159115931594159615971598159A159B159D159E15A015A115A315A415A615A715A915AA15AC15AD15AF15B015B215B315B515B615B815B915BA15BC15BD15BF15C015C215C315C515C615C815C915CB15CC15CE15CF15D115D215D415D515D715D815D915DB15DC15DE15DF15E115E215E415E515E715E815EA15EB15ED#1024,
   0x15EE15F015F115F315F415F615F715F815FA15FB15FD15FE1600160116031604160616071609160A160C160D160F1610161216131615161616171619161A161C161D161F1620162216231625162616281629162B162C162E162F1631163216331635163616381639163B163C163E163F164116421644164516471648164A164B#1024,
   0x164C164E164F165116521654165516571658165A165B165D165E1660166116631664166616671668166A166B166D166E1670167116731674167616771679167A167C167D167F1680168116831684168616871689168A168C168D168F1690169216931695169616981699169A169C169D169F16A016A216A316A516A616A816A9#1024,
   0x16AB16AC16AE16AF16B016B216B316B516B616B816B916BB16BC16BE16BF16C116C216C416C516C716C816C916CB16CC16CE16CF16D116D216D416D516D716D816DA16DB16DD16DE16DF16E116E216E416E516E716E816EA16EB16ED16EE16F016F116F316F416F516F716F816FA16FB16FD16FE170017011703170417061707#1024,
   0x1709170A170B170D170E1710171117131714171617171719171A171C171D171E1720172117231724172617271729172A172C172D172F1730173217331734173617371739173A173C173D173F1740174217431745174617471749174A174C174D174F1750175217531755175617581759175B175C175D175F1760176217631765#1024,
   0x176617681769176B176C176E176F1770177217731775177617781779177B177C177E177F1781178217831785178617881789178B178C178E178F1791179217941795179617981799179B179C179E179F17A117A217A417A517A617A817A917AB17AC17AE17AF17B117B217B417B517B717B817B917BB17BC17BE17BF17C117C2#1024,
   0x17C417C517C717C817C917CB17CC17CE17CF17D117D217D417D517D717D817DA17DB17DC17DE17DF17E117E217E417E517E717E817EA17EB17EC17EE17EF17F117F217F417F517F717F817FA17FB17FC17FE17FF180118021804180518071808180A180B180D180E180F181118121814181518171818181A181B181D181E181F#1024,
   0x182118221824182518271828182A182B182D182E182F183118321834183518371838183A183B183D183E183F184118421844184518471848184A184B184D184E184F185118521854185518571858185A185B185C185E185F186118621864186518671868186A186B186C186E186F187118721874187518771878187A187B187C#1024]

/-- Entries 4096 to 5119 of TRIG_Q: 16 rows of 64 entries of 16 bits, the first entry of a row most significant. -/
def trigRows4 : Vector (BitVec 1024) 16 :=
  #v[0x187E187F1881188218841885188718881889188B188C188E188F1891189218941895189718981899189B189C189E189F18A118A218A418A518A618A818A918AB18AC18AE18AF18B118B218B418B518B618B818B918BB18BC18BE18BF18C118C218C318C518C618C818C918CB18CC18CE18CF18D118D218D318D518D618D818D9#1024,
   0x18DB18DC18DE18DF18E018E218E318E518E618E818E918EB18EC18ED18EF18F018F218F318F518F618F818F918FA18FC18FD18FF1900190219031905190619071909190A190C190D190F1910191219131914191619171919191A191C191D191F1920192219231924192619271929192A192C192D192F19301931193319341936#1024,
   0x19371939193A193B193D193E1940194119431944194619471948194A194B194D194E1950195119531954195519571958195A195B195D195E1960196119621964196519671968196A196B196D196E196F197119721974197519771978197A197B197C197E197F1981198219841985198619881989198B198C198E198F19911992#1024,
   0x19931995199619981999199B199C199E199F19A019A219A319A519A619A819A919AA19AC19AD19AF19B019B219B319B519B619B719B919BA19BC19BD19BF19C019C119C319C419C619C719C919CA19CC19CD19CE19D019D119D319D419D619D719D819DA19DB19DD19DE19E019E119E319E419E519E719E819EA19EB19ED19EE#1024,
   0x19EF19F119F219F419F519F719F819FA19FB19FC19FE19FF1A011A021A041A051A061A081A091A0B1A0C1A0E1A0F1A101A121A131A151A161A181A191A1B1A1C1A1D1A1F1A201A221A231A251A261A271A291A2A1A2C1A2D1A2F1A301A311A331A341A361A371A391A3A1A3B1A3D1A3E1A401A411A431A441A461A471A481A4A#1024,
   0x1A4B1A4D1A4E1A501A511A521A541A551A571A581A5A1A5B1A5C1A5E1A5F1A611A621A641A651A661A681A691A6B1A6C1A6E1A6F1A701A721A731A751A761A781A791A7A1A7C1A7D1A7F1A801A821A831A841A861A871A891A8A1A8C1A8D1A8E1A901A911A931A941A961A971A981A9A1A9B1A9D1A9E1AA01AA11AA21AA41AA5#1024,
   0x1AA71AA81AAA1AAB1AAC1AAE1AAF1AB11AB21AB41AB51AB61AB81AB91ABB1ABC1ABE1ABF1AC01AC21AC31AC51AC61AC81AC91ACA1ACC1ACD1ACF1AD01AD21AD31AD41AD61AD71AD91ADA1ADC1ADD1ADE1AE01AE11AE31AE41AE61AE71AE81AEA1AEB1AED1AEE1AF01AF11AF21AF41AF51AF71AF81AFA1AFB1AFC1AFE1AFF1B01#1024,
   0x1B021B031B051B061B081B091B0B1B0C1B0D1B0F1B101B121B131B151B161B171B191B1A1B1C1B1D1B1F1B201B211B231B241B261B271B281B2A1B2B1B2D1B2E1B301B311B321B341B351B371B381B3A1B3B1B3C1B3E1B3F1B411B421B431B451B461B481B491B4B1B4C1B4D1B4F1B501B521B531B551B561B571B591B5A1B5C#1024,
   0x1B5D1B5E1B601B611B631B641B661B671B681B6A1B6B1B6D1B6E1B701B711B721B741B751B771B781B791B7B1B7C1B7E1B7F1B811B821B831B851B861B881B891B8A1B8C1B8D1B8F1B901B921B931B941B961B971B991B9A1B9B1B9D1B9E1BA01BA11BA31BA41BA51BA71BA81BAA1BAB1BAC1BAE1BAF1BB11BB21BB41BB51BB6#1024,
   0x1BB81BB91BBB1BBC1BBD1BBF1BC01BC21BC31BC51BC61BC71BC91BCA1BCC1BCD1BCE1BD01BD11BD31BD41BD61BD71BD81BDA1BDB1BDD1BDE1BDF1BE11BE21BE41BE51BE61BE81BE91BEB1BEC1BEE1BEF1BF01BF21BF31BF51BF61BF71BF91BFA1BFC1BFD1BFF1C001C011C031C041C061C071C081C0A1C0B1C0D1C0E1C0F1C11#1024,
   0x1C121C141C151C171C181C191C1B1C1C1C1E1C1F1C201C221C231C251C261C271C291C2A1C2C1C2D1C2F1C301C311C331C341C361C371C381C3A1C3B1C3D1C3E1C3F1C411C421C441C451C461C481C491C4B1C4C1C4E1C4F1C501C521C531C551C561C571C591C5A1C5C1C5D1C5E1C601C611C631C641C651C671C681C6A1C6B#1024,
   0x1C6C1C6E1C6F1C711C721C741C751C761C781C791C7B1C7C1C7D1C7F1C801C821C831C841C861C871C891C8A1C8B1C8D1C8E1C901C911C921C941C951C971C981C991C9B1C9C1C9E1C9F1CA11CA21CA31CA51CA61CA81CA91CAA1CAC1CAD1CAF1CB01CB11CB31CB41CB61CB71CB81CBA1CBB1CBD1CBE1CBF1CC11CC21CC41CC5#1024,
   0x1CC61CC81CC91CCB1CCC1CCD1CCF1CD01CD21CD31CD41CD61CD71CD91CDA1CDB1CDD1CDE1CE01CE11CE21CE41CE51CE71CE81CE91CEB1CEC1CEE1CEF1CF01CF21CF31CF51CF61CF71CF91CFA1CFC1CFD1CFF1D001D011D031D041D061D071D081D0A1D0B1D0D1D0E1D0F1D111D121D131D151D161D181D191D1A1D1C1D1D1D1F#1024,
   0x1D201D211D231D241D261D271D281D2A1D2B1D2D1D2E1D2F1D311D321D341D351D361D381D391D3B1D3C1D3D1D3F1D401D421D431D441D461D471D491D4A1D4B1D4D1D4E1D501D511D521D541D551D571D581D591D5B1D5C1D5E1D5F1D601D621D631D651D661D671D691D6A1D6C1D6D1D6E1D701D711D721D741D751D771D78#1024,
   0x1D791D7B1D7C1D7E1D7F1D801D821D831D851D861D871D891D8A1D8C1D8D1D8E1D901D911D931D941D951D971D981D9A1D9B1D9C1D9E1D9F1DA01DA21DA31DA51DA61DA71DA91DAA1DAC1DAD1DAE1DB01DB11DB31DB41DB51DB71DB81DBA1DBB1DBC1DBE1DBF1DC01DC21DC31DC51DC61DC71DC91DCA1DCC1DCD1DCE1DD01DD1#1024,
   0x1DD31DD41DD51DD71DD81DDA1DDB1DDC1DDE1DDF1DE01DE21DE31DE51DE61DE71DE91DEA1DEC1DED1DEE1DF01DF11DF31DF41DF51DF71DF81DF91DFB1DFC1DFE1DFF1E001E021E031E051E061E071E091E0A1E0B1E0D1E0E1E101E111E121E141E151E171E181E191E1B1E1C1E1E1E1F1E201E221E231E241E261E271E291E2A#1024]

/-- Entries 5120 to 6143 of TRIG_Q: 16 rows of 64 entries of 16 bits, the first entry of a row most significant. -/
def trigRows5 : Vector (BitVec 1024) 16 :=
  #v[0x1E2B1E2D1E2E1E301E311E321E341E351E361E381E391E3B1E3C1E3D1E3F1E401E421E431E441E461E471E481E4A1E4B1E4D1E4E1E4F1E511E521E541E551E561E581E591E5A1E5C1E5D1E5F1E601E611E631E641E651E671E681E6A1E6B1E6C1E6E1E6F1E711E721E731E751E761E771E791E7A1E7C1E7D1E7E1E801E811E82#1024,
   0x1E841E851E871E881E891E8B1E8C1E8E1E8F1E901E921E931E941E961E971E991E9A1E9B1E9D1E9E1E9F1EA11EA21EA41EA51EA61EA81EA91EAB1EAC1EAD1EAF1EB01EB11EB31EB41EB61EB71EB81EBA1EBB1EBC1EBE1EBF1EC11EC21EC31EC51EC61EC71EC91ECA1ECC1ECD1ECE1ED01ED11ED21ED41ED51ED71ED81ED91EDB#1024,
   0x1EDC1EDD1EDF1EE01EE21EE31EE41EE61EE71EE81EEA1EEB1EED1EEE1EEF1EF11EF21EF31EF51EF61EF81EF91EFA1EFC1EFD1EFE1F001F011F031F041F051F071F081F091F0B1F0C1F0E1F0F1F101F121F131F141F161F171F191F1A1F1B1F1D1F1E1F1F1F211F221F241F251F261F281F291F2A1F2C1F2D1F2F1F301F311F33#1024,
   0x1F341F351F371F381F3A1F3B1F3C1F3E1F3F1F401F421F431F441F461F471F491F4A1F4B1F4D1F4E1F4F1F511F521F541F551F561F581F591F5A1F5C1F5D1F5F1F601F611F631F641F651F671F681F691F6B1F6C1F6E1F6F1F701F721F731F741F761F771F791F7A1F7B1F7D1F7E1F7F1F811F821F831F851F861F881F891F8A#1024,
   0x1F8C1F8D1F8E1F901F911F921F941F951F971F981F991F9B1F9C1F9D1F9F1FA01FA21FA31FA41FA61FA71FA81FAA1FAB1FAC1FAE1FAF1FB11FB21FB31FB51FB61FB71FB91FBA1FBB1FBD1FBE1FC01FC11FC21FC41FC51FC61FC81FC91FCA1FCC1FCD1FCF1FD01FD11FD31FD41FD51FD71FD81FD91FDB1FDC1FDE1FDF1FE01FE2#1024,
   0x1FE31FE41FE61FE71FE81FEA1FEB1FEC1FEE1FEF1FF11FF21FF31FF51FF61FF71FF91FFA1FFB1FFD1FFE20002001200220042005200620082009200A200C200D200F20102011201320142015201720182019201B201C201D201F2020202220232024202620272028202A202B202C202E202F2030203220332035203620372039#1024,
   0x203A203B203D203E203F2041204220432045204620482049204A204C204D204E20502051205220542055205620582059205B205C205D205F20602061206320642065206720682069206B206C206D206F2070207220732074207620772078207A207B207C207E207F2080208220832084208620872089208A208B208D208E208F#1024,
   0x2091209220932095209620972099209A209B209D209E20A020A120A220A420A520A620A820A920AA20AC20AD20AE20B020B120B220B420B520B720B820B920BB20BC20BD20BF20C020C120C320C420C520C720C820C920CB20CC20CD20CF20D020D120D320D420D620D720D820DA20DB20DC20DE20DF20E020E220E320E420E6#1024,
   0x20E720E820EA20EB20EC20EE20EF20F020F220F320F520F620F720F920FA20FB20FD20FE20FF2101210221032105210621072109210A210B210D210E210F2111211221132115211621182119211A211C211D211E21202121212221242125212621282129212A212C212D212E21302131213221342135213621382139213A213C#1024,
   0x213D213E21402141214221442145214721482149214B214C214D214F21502151215321542155215721582159215B215C215D215F21602161216321642165216721682169216B216C216D216F21702171217321742175217721782179217B217C217D217F2180218121832184218621872188218A218B218C218E218F21902192#1024,
   0x21932194219621972198219A219B219C219E219F21A021A221A321A421A621A721A821AA21AB21AC21AE21AF21B021B221B321B421B621B721B821BA21BB21BC21BE21BF21C021C221C321C421C621C721C821CA21CB21CC21CE21CF21D021D221D321D421D621D721D821DA21DB21DC21DE21DF21E021E221E321E421E621E7#1024,
   0x21E821EA21EB21EC21EE21EF21F021F221F321F421F621F721F821FA21FB21FC21FE21FF2200220222032204220622072208220A220B220C220E220F2210221222132214221622172218221A221B221C221E221F22202222222322242226222722282229222B222C222D222F22302231223322342235223722382239223B223C#1024,
   0x223D223F22402241224322442245224722482249224B224C224D224F22502251225322542255225722582259225B225C225D225F22602261226322642265226722682269226A226C226D226E22702271227222742275227622782279227A227C227D227E22802281228222842285228622882289228A228C228D228E22902291#1024,
   0x229222932295229622972299229A229B229D229E229F22A122A222A322A522A622A722A922AA22AB22AD22AE22AF22B122B222B322B522B622B722B822BA22BB22BC22BE22BF22C022C222C322C422C622C722C822CA22CB22CC22CE22CF22D022D222D322D422D522D722D822D922DB22DC22DD22DF22E022E122E322E422E5#1024,
   0x22E722E822E922EB22EC22ED22EF22F022F122F222F422F522F622F822F922FA22FC22FD22FE23002301230223042305230623072309230A230B230D230E230F2311231223132315231623172319231A231B231D231E231F2320232223232324232623272328232A232B232C232E232F23302332233323342335233723382339#1024,
   0x233B233C233D233F23402341234323442345234723482349234A234C234D234E23502351235223542355235623582359235A235B235D235E235F2361236223632365236623672369236A236B236C236E236F2370237223732374237623772378237A237B237C237D237F23802381238323842385238723882389238B238C238D#1024]

/-- Entries 6144 to 7167 of TRIG_Q: 16 rows of 64 entries of 16 bits, the first entry of a row most significant. -/
def trigRows6 : Vector (BitVec 1024) 16 :=
  #v[0x238E23902391239223942395239623982399239A239C239D239E239F23A123A223A323A523A623A723A923AA23AB23AC23AE23AF23B023B223B323B423B623B723B823BA23BB23BC23BD23BF23C023C123C323C423C523C723C823C923CA23CC23CD23CE23D023D123D223D423D523D623D723D923DA23DB23DD23DE23DF23E1#1024,
   0x23E223E323E423E623E723E823EA23EB23EC23EE23EF23F023F123F323F423F523F723F823F923FB23FC23FD23FE24002401240224042405240624082409240A240B240D240E240F2411241224132415241624172418241A241B241C241E241F24202422242324242425242724282429242B242C242D242E2430243124322434#1024,
   0x2435243624382439243A243B243D243E243F2441244224432444244624472448244A244B244C244E244F24502451245324542455245724582459245A245C245D245E24602461246224642465246624672469246A246B246D246E246F24702472247324742476247724782479247B247C247D247F248024812483248424852486#1024,
   0x24882489248A248C248D248E248F2491249224932495249624972498249A249B249C249E249F24A024A124A324A424A524A724A824A924AA24AC24AD24AE24B024B124B224B324B524B624B724B924BA24BB24BC24BE24BF24C024C224C324C424C524C724C824C924CB24CC24CD24CE24D024D124D224D424D524D624D724D9#1024,
   0x24DA24DB24DD24DE24DF24E024E224E324E424E624E724E824E924EB24EC24ED24EF24F024F124F224F424F524F624F824F924FA24FB24FD24FE24FF25012502250325042506250725082509250B250C250D250F25102511251225142515251625182519251A251B251D251E251F25212522252325242526252725282529252B#1024,
   0x252C252D252F25302531253225342535253625382539253A253B253D253E253F25412542254325442546254725482549254B254C254D254F25502551255225542555255625572559255A255B255D255E255F25602562256325642566256725682569256B256C256D256E25702571257225742575257625772579257A257B257C#1024,
   0x257E257F25802582258325842585258725882589258A258C258D258E25902591259225932595259625972598259A259B259C259E259F25A025A125A325A425A525A625A825A925AA25AB25AD25AE25AF25B125B225B325B425B625B725B825B925BB25BC25BD25BF25C025C125C225C425C525C625C725C925CA25CB25CC25CE#1024,
   0x25CF25D025D225D325D425D525D725D825D925DA25DC25DD25DE25DF25E125E225E325E525E625E725E825EA25EB25EC25ED25EF25F025F125F225F425F525F625F825F925FA25FB25FD25FE25FF26002602260326042605260726082609260A260C260D260E26102611261226132615261626172618261A261B261C261D261F#1024,
   0x26202621262226242625262626282629262A262B262D262E262F26302632263326342635263726382639263A263C263D263E263F2641264226432644264626472648264A264B264C264D264F26502651265226542655265626572659265A265B265C265E265F26602661266326642665266626682669266A266B266D266E266F#1024,
   0x26712672267326742676267726782679267B267C267D267E26802681268226832685268626872688268A268B268C268D268F26902691269226942695269626972699269A269B269C269E269F26A026A126A326A426A526A626A826A926AA26AB26AD26AE26AF26B026B226B326B426B526B726B826B926BA26BC26BD26BE26BF#1024,
   0x26C126C226C326C426C626C726C826C926CB26CC26CD26CE26D026D126D226D326D526D626D726D826DA26DB26DC26DD26DF26E026E126E226E426E526E626E726E926EA26EB26EC26EE26EF26F026F126F326F426F526F626F826F926FA26FB26FD26FE26FF27002702270327042705270727082709270A270C270D270E270F#1024,
   0x27112712271327142715271727182719271A271C271D271E271F27212722272327242726272727282729272B272C272D272E27302731273227332735273627372738273A273B273C273D273E27402741274227432745274627472748274A274B274C274D274F27502751275227542755275627572759275A275B275C275D275F#1024,
   0x27602761276227642765276627672769276A276B276C276E276F27702771277327742775277627772779277A277B277C277E277F27802781278327842785278627882789278A278B278C278E278F27902791279327942795279627982799279A279B279D279E279F27A027A127A327A427A527A627A827A927AA27AB27AD27AE#1024,
   0x27AF27B027B127B327B427B527B627B827B927BA27BB27BD27BE27BF27C027C127C327C427C527C627C827C927CA27CB27CD27CE27CF27D027D127D327D427D527D627D827D927DA27DB27DD27DE27DF27E027E127E327E427E527E627E827E927EA27EB27ED27EE27EF27F027F127F327F427F527F627F827F927FA27FB27FC#1024,
   0x27FE27FF28002801280328042805280628082809280A280B280C280E280F28102811281328142815281628172819281A281B281C281E281F28202821282228242825282628272829282A282B282C282D282F28302831283228342835283628372838283A283B283C283D283F28402841284228432845284628472848284A284B#1024,
   0x284C284D284E285028512852285328552856285728582859285B285C285D285E286028612862286328642866286728682869286A286C286D286E286F28712872287328742875287728782879287A287C287D287E287F28802882288328842885288628882889288A288B288D288E288F28902891289328942895289628972899#1024]

/-- Entries 7168 to 8191 of TRIG_Q: 16 rows of 64 entries of 16 bits, the first entry of a row most significant. -/
def trigRows7 : Vector (BitVec 1024) 16 :=
  #v[0x289A289B289C289E289F28A028A128A228A428A528A628A728A828AA28AB28AC28AD28AF28B028B128B228B328B528B628B728B828B928BB28BC28BD28BE28BF28C128C228C328C428C628C728C828C928CA28CC28CD28CE28CF28D028D228D328D428D528D628D828D928DA28DB28DD28DE28DF28E028E128E328E428E528E6#1024,
   0x28E728E928EA28EB28EC28ED28EF28F028F128F228F328F528F628F728F828FA28FB28FC28FD28FE290029012902290329042906290729082909290A290C290D290E290F29102912291329142915291629182919291A291B291C291E291F29202921292229242925292629272929292A292B292C292D292F2930293129322933#1024,
   0x29352936293729382939293B293C293D293E293F29412942294329442945294729482949294A294B294D294E294F29502951295329542955295629572959295A295B295C295D295F296029612962296329652966296729682969296B296C296D296E296F29712972297329742975297629782979297A297B297C297E297F2980#1024,
   0x2981298229842985298629872988298A298B298C298D298E299029912992299329942996299729982999299A299C299D299E299F29A029A229A329A429A529A629A729A929AA29AB29AC29AD29AF29B029B129B229B329B529B629B729B829B929BB29BC29BD29BE29BF29C029C229C329C429C529C629C829C929CA29CB29CC#1024,
   0x29CE29CF29D029D129D229D429D529D629D729D829D929DB29DC29DD29DE29DF29E129E229E329E429E529E729E829E929EA29EB29EC29EE29EF29F029F129F229F429F529F629F729F829FA29FB29FC29FD29FE29FF2A012A022A032A042A052A072A082A092A0A2A0B2A0C2A0E2A0F2A102A112A122A142A152A162A172A18#1024,
   0x2A1A2A1B2A1C2A1D2A1E2A1F2A212A222A232A242A252A272A282A292A2A2A2B2A2C2A2E2A2F2A302A312A322A342A352A362A372A382A392A3B2A3C2A3D2A3E2A3F2A402A422A432A442A452A462A482A492A4A2A4B2A4C2A4D2A4F2A502A512A522A532A552A562A572A582A592A5A2A5C2A5D2A5E2A5F2A602A612A632A64#1024,
   0x2A652A662A672A692A6A2A6B2A6C2A6D2A6E2A702A712A722A732A742A752A772A782A792A7A2A7B2A7D2A7E2A7F2A802A812A822A842A852A862A872A882A892A8B2A8C2A8D2A8E2A8F2A902A922A932A942A952A962A982A992A9A2A9B2A9C2A9D2A9F2AA02AA12AA22AA32AA42AA62AA72AA82AA92AAA2AAB2AAD2AAE2AAF#1024,
   0x2AB02AB12AB22AB42AB52AB62AB72AB82AB92ABB2ABC2ABD2ABE2ABF2AC12AC22AC32AC42AC52AC62AC82AC92ACA2ACB2ACC2ACD2ACF2AD02AD12AD22AD32AD42AD62AD72AD82AD92ADA2ADB2ADD2ADE2ADF2AE02AE12AE22AE42AE52AE62AE72AE82AE92AEB2AEC2AED2AEE2AEF2AF02AF22AF32AF42AF52AF62AF72AF82AFA#1024,
   0x2AFB2AFC2AFD2AFE2AFF2B012B022B032B042B052B062B082B092B0A2B0B2B0C2B0D2B0F2B102B112B122B132B142B162B172B182B192B1A2B1B2B1D2B1E2B1F2B202B212B222B232B252B262B272B282B292B2A2B2C2B2D2B2E2B2F2B302B312B332B342B352B362B372B382B3A2B3B2B3C2B3D2B3E2B3F2B402B422B432B44#1024,
   0x2B452B462B472B492B4A2B4B2B4C2B4D2B4E2B502B512B522B532B542B552B562B582B592B5A2B5B2B5C2B5D2B5F2B602B612B622B632B642B652B672B682B692B6A2B6B2B6C2B6E2B6F2B702B712B722B732B742B762B772B782B792B7A2B7B2B7D2B7E2B7F2B802B812B822B832B852B862B872B882B892B8A2B8C2B8D2B8E#1024,
   0x2B8F2B902B912B922B942B952B962B972B982B992B9A2B9C2B9D2B9E2B9F2BA02BA12BA32BA42BA52BA62BA72BA82BA92BAB2BAC2BAD2BAE2BAF2BB02BB12BB32BB42BB52BB62BB72BB82BB92BBB2BBC2BBD2BBE2BBF2BC02BC22BC32BC42BC52BC62BC72BC82BCA2BCB2BCC2BCD2BCE2BCF2BD02BD22BD32BD42BD52BD62BD7#1024,
   0x2BD82BDA2BDB2BDC2BDD2BDE2BDF2BE02BE22BE32BE42BE52BE62BE72BE82BEA2BEB2BEC2BED2BEE2BEF2BF02BF22BF32BF42BF52BF62BF72BF82BFA2BFB2BFC2BFD2BFE2BFF2C002C022C032C042C052C062C072C082C0A2C0B2C0C2C0D2C0E2C0F2C102C112C132C142C152C162C172C182C192C1B2C1C2C1D2C1E2C1F2C20#1024,
   0x2C212C232C242C252C262C272C282C292C2B2C2C2C2D2C2E2C2F2C302C312C322C342C352C362C372C382C392C3A2C3C2C3D2C3E2C3F2C402C412C422C442C452C462C472C482C492C4A2C4B2C4D2C4E2C4F2C502C512C522C532C552C562C572C582C592C5A2C5B2C5C2C5E2C5F2C602C612C622C632C642C662C672C682C69#1024,
   0x2C6A2C6B2C6C2C6D2C6F2C702C712C722C732C742C752C762C782C792C7A2C7B2C7C2C7D2C7E2C7F2C812C822C832C842C852C862C872C892C8A2C8B2C8C2C8D2C8E2C8F2C902C922C932C942C952C962C972C982C992C9B2C9C2C9D2C9E2C9F2CA02CA12CA22CA42CA52CA62CA72CA82CA92CAA2CAB2CAD2CAE2CAF2CB02CB1#1024,
   0x2CB22CB32CB42CB62CB72CB82CB92CBA2CBB2CBC2CBD2CBF2CC02CC12CC22CC32CC42CC52CC62CC82CC92CCA2CCB2CCC2CCD2CCE2CCF2CD12CD22CD32CD42CD52CD62CD72CD82CD92CDB2CDC2CDD2CDE2CDF2CE02CE12CE22CE42CE52CE62CE72CE82CE92CEA2CEB2CED2CEE2CEF2CF02CF12CF22CF32CF42CF52CF72CF82CF9#1024,
   0x2CFA2CFB2CFC2CFD2CFE2D002D012D022D032D042D052D062D072D082D0A2D0B2D0C2D0D2D0E2D0F2D102D112D122D142D152D162D172D182D192D1A2D1B2D1D2D1E2D1F2D202D212D222D232D242D252D272D282D292D2A2D2B2D2C2D2D2D2E2D2F2D312D322D332D342D352D362D372D382D392D3B2D3C2D3D2D3E2D3F2D40#1024]

/-- Entries 8192 to 9215 of TRIG_Q: 16 rows of 64 entries of 16 bits, the first entry of a row most significant. -/
def trigRows8 : Vector (BitVec 1024) 16 :=
  #v[0x2D412D422D432D452D462D472D482D492D4A2D4B2D4C2D4D2D4F2D502D512D522D532D542D552D562D572D592D5A2D5B2D5C2D5D2D5E2D5F2D602D612D632D642D652D662D672D682D692D6A2D6B2D6C2D6E2D6F2D702D712D722D732D742D752D762D782D792D7A2D7B2D7C2D7D2D7E2D7F2D802D812D832D842D852D862D87#1024,
   0x2D882D892D8A2D8B2D8D2D8E2D8F2D902D912D922D932D942D952D962D982D992D9A2D9B2D9C2D9D2D9E2D9F2DA02DA12DA32DA42DA52DA62DA72DA82DA92DAA2DAB2DAC2DAE2DAF2DB02DB12DB22DB32DB42DB52DB62DB72DB92DBA2DBB2DBC2DBD2DBE2DBF2DC02DC12DC22DC42DC52DC62DC72DC82DC92DCA2DCB2DCC2DCD#1024,
   0x2DCF2DD02DD12DD22DD32DD42DD52DD62DD72DD82DD92DDB2DDC2DDD2DDE2DDF2DE02DE12DE22DE32DE42DE62DE72DE82DE92DEA2DEB2DEC2DED2DEE2DEF2DF02DF22DF32DF42DF52DF62DF72DF82DF92DFA2DFB2DFD2DFE2DFF2E002E012E022E032E042E052E062E072E092E0A2E0B2E0C2E0D2E0E2E0F2E102E112E122E13#1024,
   0x2E152E162E172E182E192E1A2E1B2E1C2E1D2E1E2E1F2E212E222E232E242E252E262E272E282E292E2A2E2B2E2C2E2E2E2F2E302E312E322E332E342E352E362E372E382E3A2E3B2E3C2E3D2E3E2E3F2E402E412E422E432E442E452E472E482E492E4A2E4B2E4C2E4D2E4E2E4F2E502E512E522E542E552E562E572E582E59#1024,
   0x2E5A2E5B2E5C2E5D2E5E2E5F2E612E622E632E642E652E662E672E682E692E6A2E6B2E6C2E6E2E6F2E702E712E722E732E742E752E762E772E782E792E7B2E7C2E7D2E7E2E7F2E802E812E822E832E842E852E862E872E892E8A2E8B2E8C2E8D2E8E2E8F2E902E912E922E932E942E952E972E982E992E9A2E9B2E9C2E9D2E9E#1024,
   0x2E9F2EA02EA12EA22EA32EA52EA62EA72EA82EA92EAA2EAB2EAC2EAD2EAE2EAF2EB02EB12EB32EB42EB52EB62EB72EB82EB92EBA2EBB2EBC2EBD2EBE2EBF2EC02EC22EC32EC42EC52EC62EC72EC82EC92ECA2ECB2ECC2ECD2ECE2ECF2ED12ED22ED32ED42ED52ED62ED72ED82ED92EDA2EDB2EDC2EDD2EDE2EE02EE12EE22EE3#1024,
   0x2EE42EE52EE62EE72EE82EE92EEA2EEB2EEC2EED2EEE2EF02EF12EF22EF32EF42EF52EF62EF72EF82EF92EFA2EFB2EFC2EFD2EFF2F002F012F022F032F042F052F062F072F082F092F0A2F0B2F0C2F0D2F0E2F102F112F122F132F142F152F162F172F182F192F1A2F1B2F1C2F1D2F1E2F202F212F222F232F242F252F262F27#1024,
   0x2F282F292F2A2F2B2F2C2F2D2F2E2F2F2F302F322F332F342F352F362F372F382F392F3A2F3B2F3C2F3D2F3E2F3F2F402F412F432F442F452F462F472F482F492F4A2F4B2F4C2F4D2F4E2F4F2F502F512F522F532F552F562F572F582F592F5A2F5B2F5C2F5D2F5E2F5F2F602F612F622F632F642F652F662F682F692F6A2F6B#1024,
   0x2F6C2F6D2F6E2F6F2F702F712F722F732F742F752F762F772F782F792F7B2F7C2F7D2F7E2F7F2F802F812F822F832F842F852F862F872F882F892F8A2F8B2F8C2F8D2F8E2F902F912F922F932F942F952F962F972F982F992F9A2F9B2F9C2F9D2F9E2F9F2FA02FA12FA22FA32FA52FA62FA72FA82FA92FAA2FAB2FAC2FAD2FAE#1024,
   0x2FAF2FB02FB12FB22FB32FB42FB52FB62FB72FB82FB92FBB2FBC2FBD2FBE2FBF2FC02FC12FC22FC32FC42FC52FC62FC72FC82FC92FCA2FCB2FCC2FCD2FCE2FCF2FD02FD22FD32FD42FD52FD62FD72FD82FD92FDA2FDB2FDC2FDD2FDE2FDF2FE02FE12FE22FE32FE42FE52FE62FE72FE82FEA2FEB2FEC2FED2FEE2FEF2FF02FF1#1024,
   0x2FF22FF32FF42FF52FF62FF72FF82FF92FFA2FFB2FFC2FFD2FFE2FFF300030013002300430053006300730083009300A300B300C300D300E300F3010301130123013301430153016301730183019301A301B301C301D301E3020302130223023302430253026302730283029302A302B302C302D302E302F3030303130323033#1024,
   0x303430353036303730383039303A303B303C303E303F3040304130423043304430453046304730483049304A304B304C304D304E304F3050305130523053305430553056305730583059305A305B305C305D305E3060306130623063306430653066306730683069306A306B306C306D306E306F307030713072307330743075#1024,
   0x3076307730783079307A307B307C307D307E307F308030813082308330843085308730883089308A308B308C308D308E308F3090309130923093309430953096309730983099309A309B309C309D309E309F30A030A130A230A330A430A530A630A730A830A930AA30AB30AC30AD30AE30AF30B030B130B230B330B430B630B7#1024,
   0x30B830B930BA30BB30BC30BD30BE30BF30C030C130C230C330C430C530C630C730C830C930CA30CB30CC30CD30CE30CF30D030D130D230D330D430D530D630D730D830D930DA30DB30DC30DD30DE30DF30E030E130E230E330E430E530E630E730E830E930EA30EB30EC30ED30EE30EF30F030F130F230F330F430F530F630F7#1024,
   0x30F930FA30FB30FC30FD30FE30FF3100310131023103310431053106310731083109310A310B310C310D310E310F3110311131123113311431153116311731183119311A311B311C311D311E311F3120312131223123312431253126312731283129312A312B312C312D312E312F313031313132313331343135313631373138#1024,
   0x3139313A313B313C313D313E313F3140314131423143314431453146314731483149314A314B314C314D314E314F3150315131523153315431553156315731583159315A315B315C315D315E315F3160316131623163316431653166316731683169316A316B316C316D316E316F317031713172317331743175317631773178#1024]

/-- Entries 9216 to 10239 of TRIG_Q: 16 rows of 64 entries of 16 bits, the first entry of a row most significant. -/
def trigRows9 : Vector (BitVec 1024) 16 :=
  #v[0x3179317A317B317C317D317E317F3180318131823183318431853186318731883189318A318B318C318D318E318F3190319131923193319431953196319731983199319A319B319C319D319E319F31A031A131A231A331A431A531A631A731A831A931AA31AB31AC31AD31AE31AF31B031B131B231B331B431B531B631B731B8#1024,
   0x31B931BA31BB31BC31BC31BD31BE31BF31C031C131C231C331C431C531C631C731C831C931CA31CB31CC31CD31CE31CF31D031D131D231D331D431D531D631D731D831D931DA31DB31DC31DD31DE31DF31E031E131E231E331E431E531E631E731E831E931EA31EB31EC31ED31EE31EF31F031F131F231F331F431F531F631F7#1024,
   0x31F831F931FA31FB31FC31FD31FD31FE31FF3200320132023203320432053206320732083209320A320B320C320D320E320F3210321132123213321432153216321732183219321A321B321C321D321E321F3220322132223223322432253226322732283229322A322A322B322C322D322E322F323032313232323332343235#1024,
   0x3236323732383239323A323B323C323D323E323F3240324132423243324432453246324732483249324A324B324C324D324E324E324F3250325132523253325432553256325732583259325A325B325C325D325E325F3260326132623263326432653266326732683269326A326B326C326D326E326E326F3270327132723273#1024,
   0x327432753276327732783279327A327B327C327D327E327F3280328132823283328432853286328732883289328A328A328B328C328D328E328F3290329132923293329432953296329732983299329A329B329C329D329E329F32A032A132A232A332A332A432A532A632A732A832A932AA32AB32AC32AD32AE32AF32B032B1#1024,
   0x32B232B332B432B532B632B732B832B932BA32BA32BB32BC32BD32BE32BF32C032C132C232C332C432C532C632C732C832C932CA32CB32CC32CD32CE32CF32D032D032D132D232D332D432D532D632D732D832D932DA32DB32DC32DD32DE32DF32E032E132E232E332E432E532E532E632E732E832E932EA32EB32EC32ED32EE#1024,
   0x32EF32F032F132F232F332F432F532F632F732F832F832F932FA32FB32FC32FD32FE32FF3300330133023303330433053306330733083309330A330B330B330C330D330E330F3310331133123313331433153316331733183319331A331B331C331D331D331E331F3320332133223323332433253326332733283329332A332B#1024,
   0x332C332D332E332E332F3330333133323333333433353336333733383339333A333B333C333D333E333E333F3340334133423343334433453346334733483349334A334B334C334D334E334E334F3350335133523353335433553356335733583359335A335B335C335D335D335E335F33603361336233633364336533663367#1024,
   0x33683369336A336B336B336C336D336E336F3370337133723373337433753376337733783379337A337A337B337C337D337E337F33803381338233833384338533863387338733883389338A338B338C338D338E338F33903391339233933394339533953396339733983399339A339B339C339D339E339F33A033A133A233A2#1024,
   0x33A333A433A533A633A733A833A933AA33AB33AC33AD33AE33AF33AF33B033B133B233B333B433B533B633B733B833B933BA33BB33BB33BC33BD33BE33BF33C033C133C233C333C433C533C633C733C733C833C933CA33CB33CC33CD33CE33CF33D033D133D233D333D333D433D533D633D733D833D933DA33DB33DC33DD33DE#1024,
   0x33DF33DF33E033E133E233E333E433E533E633E733E833E933EA33EA33EB33EC33ED33EE33EF33F033F133F233F333F433F533F533F633F733F833F933FA33FB33FC33FD33FE33FF34003400340134023403340434053406340734083409340A340B340B340C340D340E340F3410341134123413341434153416341634173418#1024,
   0x3419341A341B341C341D341E341F34203420342134223423342434253426342734283429342A342A342B342C342D342E342F34303431343234333434343434353436343734383439343A343B343C343D343E343E343F34403441344234433444344534463447344834483449344A344B344C344D344E344F3450345134523452#1024,
   0x3453345434553456345734583459345A345B345B345C345D345E345F34603461346234633464346434653466346734683469346A346B346C346D346D346E346F34703471347234733474347534763476347734783479347A347B347C347D347E347F347F34803481348234833484348534863487348834883489348A348B348C#1024,
   0x348D348E348F349034913491349234933494349534963497349834993499349A349B349C349D349E349F34A034A134A234A234A334A434A534A634A734A834A934AA34AA34AB34AC34AD34AE34AF34B034B134B234B234B334B434B534B634B734B834B934BA34BB34BB34BC34BD34BE34BF34C034C134C234C334C334C434C5#1024,
   0x34C634C734C834C934CA34CB34CB34CC34CD34CE34CF34D034D134D234D334D334D434D534D634D734D834D934DA34DA34DB34DC34DD34DE34DF34E034E134E234E234E334E434E534E634E734E834E934EA34EA34EB34EC34ED34EE34EF34F034F134F134F234F334F434F534F634F734F834F934F934FA34FB34FC34FD34FE#1024,
   0x34FF350035003501350235033504350535063507350735083509350A350B350C350D350E350F350F35103511351235133514351535163516351735183519351A351B351C351D351D351E351F35203521352235233524352435253526352735283529352A352B352B352C352D352E352F35303531353235323533353435353536#1024]

/-- Entries 10240 to 11263 of TRIG_Q: 16 rows of 64 entries of 16 bits, the first entry of a row most significant. -/
def trigRows10 : Vector (BitVec 1024) 16 :=
  #v[0x3537353835393539353A353B353C353D353E353F354035403541354235433544354535463546354735483549354A354B354C354D354D354E354F35503551355235533554355435553556355735583559355A355A355B355C355D355E355F356035613561356235633564356535663567356735683569356A356B356C356D356E#1024,
   0x356E356F35703571357235733574357435753576357735783579357A357A357B357C357D357E357F358035813581358235833584358535863587358735883589358A358B358C358D358D358E358F359035913592359335933594359535963597359835993599359A359B359C359D359E359F359F35A035A135A235A335A435A5#1024,
   0x35A535A635A735A835A935AA35AB35AB35AC35AD35AE35AF35B035B135B135B235B335B435B535B635B735B735B835B935BA35BB35BC35BD35BD35BE35BF35C035C135C235C335C335C435C535C635C735C835C835C935CA35CB35CC35CD35CE35CE35CF35D035D135D235D335D435D435D535D635D735D835D935D935DA35DB#1024,
   0x35DC35DD35DE35DF35DF35E035E135E235E335E435E535E535E635E735E835E935EA35EA35EB35EC35ED35EE35EF35F035F035F135F235F335F435F535F535F635F735F835F935FA35FB35FB35FC35FD35FE35FF360036003601360236033604360536053606360736083609360A360B360B360C360D360E360F361036103611#1024,
   0x361236133614361536153616361736183619361A361A361B361C361D361E361F362036203621362236233624362536253626362736283629362A362A362B362C362D362E362F362F363036313632363336343634363536363637363836393639363A363B363C363D363E363E363F364036413642364336433644364536463647#1024,
   0x364836483649364A364B364C364D364D364E364F365036513652365236533654365536563657365736583659365A365B365C365C365D365E365F366036613661366236633664366536653666366736683669366A366A366B366C366D366E366F366F367036713672367336743674367536763677367836783679367A367B367C#1024,
   0x367D367D367E367F368036813682368236833684368536863686368736883689368A368B368B368C368D368E368F3690369036913692369336943694369536963697369836993699369A369B369C369D369D369E369F36A036A136A236A236A336A436A536A636A636A736A836A936AA36AB36AB36AC36AD36AE36AF36AF36B0#1024,
   0x36B136B236B336B436B436B536B636B736B836B836B936BA36BB36BC36BC36BD36BE36BF36C036C136C136C236C336C436C536C536C636C736C836C936C936CA36CB36CC36CD36CE36CE36CF36D036D136D236D236D336D436D536D636D636D736D836D936DA36DB36DB36DC36DD36DE36DF36DF36E036E136E236E336E336E4#1024,
   0x36E536E636E736E736E836E936EA36EB36EB36EC36ED36EE36EF36F036F036F136F236F336F436F436F536F636F736F836F836F936FA36FB36FC36FC36FD36FE36FF3700370037013702370337043704370537063707370837083709370A370B370C370C370D370E370F37103710371137123713371437143715371637173718#1024,
   0x37183719371A371B371C371C371D371E371F3720372037213722372337243724372537263727372837283729372A372B372C372C372D372E372F3730373037313732373337343734373537363737373837383739373A373B373B373C373D373E373F373F374037413742374337433744374537463747374737483749374A374B#1024,
   0x374B374C374D374E374E374F375037513752375237533754375537563756375737583759375A375A375B375C375D375D375E375F3760376137613762376337643765376537663767376837693769376A376B376C376C376D376E376F3770377037713772377337743774377537763777377737783779377A377B377B377C377D#1024,
   0x377E377E377F3780378137823782378337843785378637863787378837893789378A378B378C378D378D378E378F3790379037913792379337943794379537963797379737983799379A379B379B379C379D379E379E379F37A037A137A237A237A337A437A537A537A637A737A837A937A937AA37AB37AC37AC37AD37AE37AF#1024,
   0x37B037B037B137B237B337B337B437B537B637B637B737B837B937BA37BA37BB37BC37BD37BD37BE37BF37C037C137C137C237C337C437C437C537C637C737C737C837C937CA37CB37CB37CC37CD37CE37CE37CF37D037D137D137D237D337D437D537D537D637D737D837D837D937DA37DB37DB37DC37DD37DE37DE37DF37E0#1024,
   0x37E137E237E237E337E437E537E537E637E737E837E837E937EA37EB37EB37EC37ED37EE37EF37EF37F037F137F237F237F337F437F537F537F637F737F837F837F937FA37FB37FC37FC37FD37FE37FF37FF3800380138023802380338043805380538063807380838083809380A380B380B380C380D380E380F380F38103811#1024,
   0x38123812381338143815381538163817381838183819381A381B381B381C381D381E381E381F3820382138213822382338243824382538263827382738283829382A382A382B382C382D382D382E382F38303830383138323833383338343835383638363837383838393839383A383B383C383C383D383E383F383F38403841#1024,
   0x38423842384338443845384538463847384838483849384A384B384B384C384D384E384E384F3850385138513852385338543854385538563857385738583859385A385A385B385C385D385D385E385F38603860386138623863386338643865386638663867386838693869386A386B386B386C386D386E386E386F38703871#1024]

/-- Entries 11264 to 12287 of TRIG_Q: 16 rows of 64 entries of 16 bits, the first entry of a row most significant. -/
def trigRows11 : Vector (BitVec 1024) 16 :=
  #v[0x38713872387338743874387538763877387738783879387A387A387B387C387C387D387E387F387F3880388138823882388338843885388538863887388838883889388A388A388B388C388D388D388E388F38903890389138923893389338943895389638963897389838983899389A389B389B389C389D389E389E389F38A0#1024,
   0x38A138A138A238A338A338A438A538A638A638A738A838A938A938AA38AB38AB38AC38AD38AE38AE38AF38B038B138B138B238B338B438B438B538B638B638B738B838B938B938BA38BB38BC38BC38BD38BE38BE38BF38C038C138C138C238C338C338C438C538C638C638C738C838C938C938CA38CB38CB38CC38CD38CE38CE#1024,
   0x38CF38D038D138D138D238D338D338D438D538D638D638D738D838D838D938DA38DB38DB38DC38DD38DE38DE38DF38E038E038E138E238E338E338E438E538E538E638E738E838E838E938EA38EA38EB38EC38ED38ED38EE38EF38F038F038F138F238F238F338F438F538F538F638F738F738F838F938FA38FA38FB38FC38FC#1024,
   0x38FD38FE38FF38FF39003901390139023903390439043905390639063907390839093909390A390B390B390C390D390E390E390F39103910391139123912391339143915391539163917391739183919391A391A391B391C391C391D391E391F391F39203921392139223923392439243925392639263927392839283929392A#1024,
   0x392B392B392C392D392D392E392F393039303931393239323933393439343935393639373937393839393939393A393B393B393C393D393E393E393F39403940394139423943394339443945394539463947394739483949394A394A394B394C394C394D394E394E394F39503951395139523953395339543955395539563957#1024,
   0x395839583959395A395A395B395C395C395D395E395E395F39603961396139623963396339643965396539663967396839683969396A396A396B396C396C396D396E396E396F39703971397139723973397339743975397539763977397739783979397A397A397B397C397C397D397E397E397F398039803981398239833983#1024,
   0x398439853985398639873987398839893989398A398B398B398C398D398E398E398F399039903991399239923993399439943995399639963997399839983999399A399B399B399C399D399D399E399F399F39A039A139A139A239A339A339A439A539A539A639A739A839A839A939AA39AA39AB39AC39AC39AD39AE39AE39AF#1024,
   0x39B039B039B139B239B239B339B439B439B539B639B639B739B839B939B939BA39BB39BB39BC39BD39BD39BE39BF39BF39C039C139C139C239C339C339C439C539C539C639C739C739C839C939C939CA39CB39CB39CC39CD39CE39CE39CF39D039D039D139D239D239D339D439D439D539D639D639D739D839D839D939DA39DA#1024,
   0x39DB39DC39DC39DD39DE39DE39DF39E039E039E139E239E239E339E439E439E539E639E639E739E839E839E939EA39EA39EB39EC39EC39ED39EE39EE39EF39F039F039F139F239F239F339F439F439F539F639F639F739F839F839F939FA39FA39FB39FC39FC39FD39FE39FE39FF3A003A003A013A023A023A033A043A043A05#1024,
   0x3A063A063A073A083A083A093A0A3A0A3A0B3A0C3A0C3A0D3A0E3A0E3A0F3A103A103A113A123A123A133A143A143A153A163A163A173A183A183A193A193A1A3A1B3A1B3A1C3A1D3A1D3A1E3A1F3A1F3A203A213A213A223A233A233A243A253A253A263A273A273A283A293A293A2A3A2B3A2B3A2C3A2D3A2D3A2E3A2E3A2F#1024,
   0x3A303A303A313A323A323A333A343A343A353A363A363A373A383A383A393A3A3A3A3A3B3A3C3A3C3A3D3A3E3A3E3A3F3A3F3A403A413A413A423A433A433A443A453A453A463A473A473A483A493A493A4A3A4B3A4B3A4C3A4C3A4D3A4E3A4E3A4F3A503A503A513A523A523A533A543A543A553A563A563A573A573A583A59#1024,
   0x3A593A5A3A5B3A5B3A5C3A5D3A5D3A5E3A5F3A5F3A603A603A613A623A623A633A643A643A653A663A663A673A683A683A693A693A6A3A6B3A6B3A6C3A6D3A6D3A6E3A6F3A6F3A703A713A713A723A723A733A743A743A753A763A763A773A783A783A793A793A7A3A7B3A7B3A7C3A7D3A7D3A7E3A7F3A7F3A803A813A813A82#1024,
   0x3A823A833A843A843A853A863A863A873A883A883A893A893A8A3A8B3A8B3A8C3A8D3A8D3A8E3A8E3A8F3A903A903A913A923A923A933A943A943A953A953A963A973A973A983A993A993A9A3A9B3A9B3A9C3A9C3A9D3A9E3A9E3A9F3AA03AA03AA13AA13AA23AA33AA33AA43AA53AA53AA63AA63AA73AA83AA83AA93AAA3AAA#1024,
   0x3AAB3AAB3AAC3AAD3AAD3AAE3AAF3AAF3AB03AB13AB13AB23AB23AB33AB43AB43AB53AB63AB63AB73AB73AB83AB93AB93ABA3ABB3ABB3ABC3ABC3ABD3ABE3ABE3ABF3AC03AC03AC13AC13AC23AC33AC33AC43AC43AC53AC63AC63AC73AC83AC83AC93AC93ACA3ACB3ACB3ACC3ACD3ACD3ACE3ACE3ACF3AD03AD03AD13AD23AD2#1024,
   0x3AD33AD33AD43AD53AD53AD63AD63AD73AD83AD83AD93ADA3ADA3ADB3ADB3ADC3ADD3ADD3ADE3ADE3ADF3AE03AE03AE13AE23AE23AE33AE33AE43AE53AE53AE63AE63AE73AE83AE83AE93AEA3AEA3AEB3AEB3AEC3AED3AED3AEE3AEE3AEF3AF03AF03AF13AF23AF23AF33AF33AF43AF53AF53AF63AF63AF73AF83AF83AF93AF9#1024,
   0x3AFA3AFB3AFB3AFC3AFD3AFD3AFE3AFE3AFF3B003B003B013B013B023B033B033B043B043B053B063B063B073B073B083B093B093B0A3B0B3B0B3B0C3B0C3B0D3B0E3B0E3B0F3B0F3B103B113B113B123B123B133B143B143B153B153B163B173B173B183B183B193B1A3B1A3B1B3B1B3B1C3B1D3B1D3B1E3B1E3B1F3B203B20#1024]

/-- Entries 12288 to 13311 of TRIG_Q: 16 rows of 64 entries of 16 bits, the first entry of a row most significant. -/
def trigRows12 : Vector (BitVec 1024) 16 :=
  #v[0x3B213B213B223B233B233B243B243B253B263B263B273B273B283B293B293B2A3B2A3B2B3B2C3B2C3B2D3B2D3B2E3B2F3B2F3B303B303B313B323B323B333B333B343B353B353B363B363B373B383B383B393B393B3A3B3B3B3B3B3C3B3C3B3D3B3E3B3E3B3F3B3F3B403B413B413B423B423B433B433B443B453B453B463B46#1024,
   0x3B473B483B483B493B493B4A3B4B3B4B3B4C3B4C3B4D3B4E3B4E3B4F3B4F3B503B503B513B523B523B533B533B543B553B553B563B563B573B583B583B593B593B5A3B5A3B5B3B5C3B5C3B5D3B5D3B5E3B5F3B5F3B603B603B613B623B623B633B633B643B643B653B663B663B673B673B683B693B693B6A3B6A3B6B3B6B3B6C#1024,
   0x3B6D3B6D3B6E3B6E3B6F3B703B703B713B713B723B723B733B743B743B753B753B763B773B773B783B783B793B793B7A3B7B3B7B3B7C3B7C3B7D3B7D3B7E3B7F3B7F3B803B803B813B823B823B833B833B843B843B853B863B863B873B873B883B883B893B8A3B8A3B8B3B8B3B8C3B8D3B8D3B8E3B8E3B8F3B8F3B903B913B91#1024,
   0x3B923B923B933B933B943B953B953B963B963B973B973B983B993B993B9A3B9A3B9B3B9B3B9C3B9D3B9D3B9E3B9E3B9F3B9F3BA03BA13BA13BA23BA23BA33BA33BA43BA53BA53BA63BA63BA73BA73BA83BA93BA93BAA3BAA3BAB3BAB3BAC3BAD3BAD3BAE3BAE3BAF3BAF3BB03BB03BB13BB23BB23BB33BB33BB43BB43BB53BB6#1024,
   0x3BB63BB73BB73BB83BB83BB93BBA3BBA3BBB3BBB3BBC3BBC3BBD3BBD3BBE3BBF3BBF3BC03BC03BC13BC13BC23BC33BC33BC43BC43BC53BC53BC63BC63BC73BC83BC83BC93BC93BCA3BCA3BCB3BCC3BCC3BCD3BCD3BCE3BCE3BCF3BCF3BD03BD13BD13BD23BD23BD33BD33BD43BD43BD53BD63BD63BD73BD73BD83BD83BD93BD9#1024,
   0x3BDA3BDB3BDB3BDC3BDC3BDD3BDD3BDE3BDE3BDF3BE03BE03BE13BE13BE23BE23BE33BE33BE43BE53BE53BE63BE63BE73BE73BE83BE83BE93BEA3BEA3BEB3BEB3BEC3BEC3BED3BED3BEE3BEF3BEF3BF03BF03BF13BF13BF23BF23BF33BF33BF43BF53BF53BF63BF63BF73BF73BF83BF83BF93BFA3BFA3BFB3BFB3BFC3BFC3BFD#1024,
   0x3BFD3BFE3BFE3BFF3C003C003C013C013C023C023C033C033C043C043C053C063C063C073C073C083C083C093C093C0A3C0A3C0B3C0C3C0C3C0D3C0D3C0E3C0E3C0F3C0F3C103C103C113C123C123C133C133C143C143C153C153C163C163C173C173C183C193C193C1A3C1A3C1B3C1B3C1C3C1C3C1D3C1D3C1E3C1E3C1F3C20#1024,
   0x3C203C213C213C223C223C233C233C243C243C253C253C263C273C273C283C283C293C293C2A3C2A3C2B3C2B3C2C3C2C3C2D3C2E3C2E3C2F3C2F3C303C303C313C313C323C323C333C333C343C343C353C363C363C373C373C383C383C393C393C3A3C3A3C3B3C3B3C3C3C3C3C3D3C3D3C3E3C3F3C3F3C403C403C413C413C42#1024,
   0x3C423C433C433C443C443C453C453C463C463C473C483C483C493C493C4A3C4A3C4B3C4B3C4C3C4C3C4D3C4D3C4E3C4E3C4F3C4F3C503C503C513C523C523C533C533C543C543C553C553C563C563C573C573C583C583C593C593C5A3C5A3C5B3C5B3C5C3C5D3C5D3C5E3C5E3C5F3C5F3C603C603C613C613C623C623C633C63#1024,
   0x3C643C643C653C653C663C663C673C673C683C693C693C6A3C6A3C6B3C6B3C6C3C6C3C6D3C6D3C6E3C6E3C6F3C6F3C703C703C713C713C723C723C733C733C743C743C753C753C763C763C773C773C783C793C793C7A3C7A3C7B3C7B3C7C3C7C3C7D3C7D3C7E3C7E3C7F3C7F3C803C803C813C813C823C823C833C833C843C84#1024,
   0x3C853C853C863C863C873C873C883C883C893C893C8A3C8A3C8B3C8B3C8C3C8C3C8D3C8D3C8E3C8F3C8F3C903C903C913C913C923C923C933C933C943C943C953C953C963C963C973C973C983C983C993C993C9A3C9A3C9B3C9B3C9C3C9C3C9D3C9D3C9E3C9E3C9F3C9F3CA03CA03CA13CA13CA23CA23CA33CA33CA43CA43CA5#1024,
   0x3CA53CA63CA63CA73CA73CA83CA83CA93CA93CAA3CAA3CAB3CAB3CAC3CAC3CAD3CAD3CAE3CAE3CAF3CAF3CB03CB03CB13CB13CB23CB23CB33CB33CB43CB43CB53CB53CB63CB63CB73CB73CB83CB83CB93CB93CBA3CBA3CBB3CBB3CBC3CBC3CBD3CBD3CBE3CBE3CBF3CBF3CC03CC03CC13CC13CC23CC23CC33CC33CC43CC43CC5#1024,
   0x3CC53CC63CC63CC73CC73CC83CC83CC93CC93CC93CCA3CCA3CCB3CCB3CCC3CCC3CCD3CCD3CCE3CCE3CCF3CCF3CD03CD03CD13CD13CD23CD23CD33CD33CD43CD43CD53CD53CD63CD63CD73CD73CD83CD83CD93CD93CDA3CDA3CDB3CDB3CDC3CDC3CDD3CDD3CDE3CDE3CDE3CDF3CDF3CE03CE03CE13CE13CE23CE23CE33CE33CE4#1024,
   0x3CE43CE53CE53CE63CE63CE73CE73CE83CE83CE93CE93CEA3CEA3CEB3CEB3CEC3CEC3CED3CED3CED3CEE3CEE3CEF3CEF3CF03CF03CF13CF13CF23CF23CF33CF33CF43CF43CF53CF53CF63CF63CF73CF73CF83CF83CF83CF93CF93CFA3CFA3CFB3CFB3CFC3CFC3CFD3CFD3CFE3CFE3CFF3CFF3D003D003D013D013D023D023D02#1024,
   0x3D033D033D043D043D053D053D063D063D073D073D083D083D093D093D0A3D0A3D0B3D0B3D0B3D0C3D0C3D0D3D0D3D0E3D0E3D0F3D0F3D103D103D113D113D123D123D133D133D133D143D143D153D153D163D163D173D173D183D183D193D193D1A3D1A3D1B3D1B3D1B3D1C3D1C3D1D3D1D3D1E3D1E3D1F3D1F3D203D203D21#1024,
   0x3D213D213D223D223D233D233D243D243D253D253D263D263D273D273D283D283D283D293D293D2A3D2A3D2B3D2B3D2C3D2C3D2D3D2D3D2E3D2E3D2E3D2F3D2F3D303D303D313D313D323D323D333D333D343D343D343D353D353D363D363D373D373D383D383D393D393D393D3A3D3A3D3B3D3B3D3C3D3C3D3D3D3D3D3E3D3E#1024]

/-- Entries 13312 to 14335 of TRIG_Q: 16 rows of 64 entries of 16 bits, the first entry of a row most significant. -/
def trigRows13 : Vector (BitVec 1024) 16 :=
  #v[0x3D3F3D3F3D3F3D403D403D413D413D423D423D433D433D443D443D443D453D453D463D463D473D473D483D483D493D493D493D4A3D4A3D4B3D4B3D4C3D4C3D4D3D4D3D4D3D4E3D4E3D4F3D4F3D503D503D513D513D523D523D523D533D533D543D543D553D553D563D563D563D573D573D583D583D593D593D5A3D5A3D5B3D5B#1024,
   0x3D5B3D5C3D5C3D5D3D5D3D5E3D5E3D5F3D5F3D5F3D603D603D613D613D623D623D633D633D633D643D643D653D653D663D663D673D673D673D683D683D693D693D6A3D6A3D6B3D6B3D6B3D6C3D6C3D6D3D6D3D6E3D6E3D6E3D6F3D6F3D703D703D713D713D723D723D723D733D733D743D743D753D753D763D763D763D773D77#1024,
   0x3D783D783D793D793D793D7A3D7A3D7B3D7B3D7C3D7C3D7C3D7D3D7D3D7E3D7E3D7F3D7F3D803D803D803D813D813D823D823D833D833D833D843D843D853D853D863D863D863D873D873D883D883D893D893D8A3D8A3D8A3D8B3D8B3D8C3D8C3D8D3D8D3D8D3D8E3D8E3D8F3D8F3D903D903D903D913D913D923D923D933D93#1024,
   0x3D933D943D943D953D953D963D963D963D973D973D983D983D993D993D993D9A3D9A3D9B3D9B3D9C3D9C3D9C3D9D3D9D3D9E3D9E3D9E3D9F3D9F3DA03DA03DA13DA13DA13DA23DA23DA33DA33DA43DA43DA43DA53DA53DA63DA63DA73DA73DA73DA83DA83DA93DA93DA93DAA3DAA3DAB3DAB3DAC3DAC3DAC3DAD3DAD3DAE3DAE#1024,
   0x3DAF3DAF3DAF3DB03DB03DB13DB13DB13DB23DB23DB33DB33DB43DB43DB43DB53DB53DB63DB63DB63DB73DB73DB83DB83DB93DB93DB93DBA3DBA3DBB3DBB3DBB3DBC3DBC3DBD3DBD3DBD3DBE3DBE3DBF3DBF3DC03DC03DC03DC13DC13DC23DC23DC23DC33DC33DC43DC43DC53DC53DC53DC63DC63DC73DC73DC73DC83DC83DC9#1024,
   0x3DC93DC93DCA3DCA3DCB3DCB3DCB3DCC3DCC3DCD3DCD3DCE3DCE3DCE3DCF3DCF3DD03DD03DD03DD13DD13DD23DD23DD23DD33DD33DD43DD43DD43DD53DD53DD63DD63DD63DD73DD73DD83DD83DD83DD93DD93DDA3DDA3DDB3DDB3DDB3DDC3DDC3DDD3DDD3DDD3DDE3DDE3DDF3DDF3DDF3DE03DE03DE13DE13DE13DE23DE23DE3#1024,
   0x3DE33DE33DE43DE43DE53DE53DE53DE63DE63DE73DE73DE73DE83DE83DE93DE93DE93DEA3DEA3DEB3DEB3DEB3DEC3DEC3DED3DED3DED3DEE3DEE3DEE3DEF3DEF3DF03DF03DF03DF13DF13DF23DF23DF23DF33DF33DF43DF43DF43DF53DF53DF63DF63DF63DF73DF73DF83DF83DF83DF93DF93DFA3DFA3DFA3DFB3DFB3DFB3DFC#1024,
   0x3DFC3DFD3DFD3DFD3DFE3DFE3DFF3DFF3DFF3E003E003E013E013E013E023E023E033E033E033E043E043E043E053E053E063E063E063E073E073E083E083E083E093E093E093E0A3E0A3E0B3E0B3E0B3E0C3E0C3E0D3E0D3E0D3E0E3E0E3E0E3E0F3E0F3E103E103E103E113E113E123E123E123E133E133E133E143E143E15#1024,
   0x3E153E153E163E163E173E173E173E183E183E183E193E193E1A3E1A3E1A3E1B3E1B3E1B3E1C3E1C3E1D3E1D3E1D3E1E3E1E3E1E3E1F3E1F3E203E203E203E213E213E223E223E223E233E233E233E243E243E253E253E253E263E263E263E273E273E283E283E283E293E293E293E2A3E2A3E2B3E2B3E2B3E2C3E2C3E2C3E2D#1024,
   0x3E2D3E2D3E2E3E2E3E2F3E2F3E2F3E303E303E303E313E313E323E323E323E333E333E333E343E343E353E353E353E363E363E363E373E373E373E383E383E393E393E393E3A3E3A3E3A3E3B3E3B3E3C3E3C3E3C3E3D3E3D3E3D3E3E3E3E3E3E3E3F3E3F3E403E403E403E413E413E413E423E423E423E433E433E443E443E44#1024,
   0x3E453E453E453E463E463E463E473E473E483E483E483E493E493E493E4A3E4A3E4A3E4B3E4B3E4C3E4C3E4C3E4D3E4D3E4D3E4E3E4E3E4E3E4F3E4F3E4F3E503E503E513E513E513E523E523E523E533E533E533E543E543E543E553E553E563E563E563E573E573E573E583E583E583E593E593E593E5A3E5A3E5B3E5B3E5B#1024,
   0x3E5C3E5C3E5C3E5D3E5D3E5D3E5E3E5E3E5E3E5F3E5F3E5F3E603E603E613E613E613E623E623E623E633E633E633E643E643E643E653E653E653E663E663E663E673E673E683E683E683E693E693E693E6A3E6A3E6A3E6B3E6B3E6B3E6C3E6C3E6C3E6D3E6D3E6D3E6E3E6E3E6E3E6F3E6F3E6F3E703E703E713E713E713E72#1024,
   0x3E723E723E733E733E733E743E743E743E753E753E753E763E763E763E773E773E773E783E783E783E793E793E793E7A3E7A3E7A3E7B3E7B3E7B3E7C3E7C3E7D3E7D3E7D3E7E3E7E3E7E3E7F3E7F3E7F3E803E803E803E813E813E813E823E823E823E833E833E833E843E843E843E853E853E853E863E863E863E873E873E87#1024,
   0x3E883E883E883E893E893E893E8A3E8A3E8A3E8B3E8B3E8B3E8C3E8C3E8C3E8D3E8D3E8D3E8E3E8E3E8E3E8F3E8F3E8F3E903E903E903E913E913E913E923E923E923E933E933E933E943E943E943E953E953E953E963E963E963E973E973E973E983E983E983E993E993E993E993E9A3E9A3E9A3E9B3E9B3E9B3E9C3E9C3E9C#1024,
   0x3E9D3E9D3E9D3E9E3E9E3E9E3E9F3E9F3E9F3EA03EA03EA03EA13EA13EA13EA23EA23EA23EA33EA33EA33EA43EA43EA43EA53EA53EA53EA53EA63EA63EA63EA73EA73EA73EA83EA83EA83EA93EA93EA93EAA3EAA3EAA3EAB3EAB3EAB3EAC3EAC3EAC3EAD3EAD3EAD3EAD3EAE3EAE3EAE3EAF3EAF3EAF3EB03EB03EB03EB13EB1#1024,
   0x3EB13EB23EB23EB23EB33EB33EB33EB33EB43EB43EB43EB53EB53EB53EB63EB63EB63EB73EB73EB73EB83EB83EB83EB83EB93EB93EB93EBA3EBA3EBA3EBB3EBB3EBB3EBC3EBC3EBC3EBD3EBD3EBD3EBD3EBE3EBE3EBE3EBF3EBF3EBF3EC03EC03EC03EC13EC13EC13EC13EC23EC23EC23EC33EC33EC33EC43EC43EC43EC53EC5#1024]

/-- Entries 14336 to 15359 of TRIG_Q: 16 rows of 64 entries of 16 bits, the first entry of a row most significant. -/
def trigRows14 : Vector (BitVec 1024) 16 :=
  #v[0x3EC53EC53EC63EC63EC63EC73EC73EC73EC83EC83EC83EC93EC93EC93EC93ECA3ECA3ECA3ECB3ECB3ECB3ECC3ECC3ECC3ECC3ECD3ECD3ECD3ECE3ECE3ECE3ECF3ECF3ECF3ED03ED03ED03ED03ED13ED13ED13ED23ED23ED23ED33ED33ED33ED33ED43ED43ED43ED53ED53ED53ED63ED63ED63ED63ED73ED73ED73ED83ED83ED8#1024,
   0x3ED83ED93ED93ED93EDA3EDA3EDA3EDB3EDB3EDB3EDB3EDC3EDC3EDC3EDD3EDD3EDD3EDE3EDE3EDE3EDE3EDF3EDF3EDF3EE03EE03EE03EE03EE13EE13EE13EE23EE23EE23EE33EE33EE33EE33EE43EE43EE43EE53EE53EE53EE53EE63EE63EE63EE73EE73EE73EE73EE83EE83EE83EE93EE93EE93EE93EEA3EEA3EEA3EEB3EEB#1024,
   0x3EEB3EEB3EEC3EEC3EEC3EED3EED3EED3EED3EEE3EEE3EEE3EEF3EEF3EEF3EEF3EF03EF03EF03EF13EF13EF13EF13EF23EF23EF23EF33EF33EF33EF33EF43EF43EF43EF53EF53EF53EF53EF63EF63EF63EF73EF73EF73EF73EF83EF83EF83EF93EF93EF93EF93EFA3EFA3EFA3EFB3EFB3EFB3EFB3EFC3EFC3EFC3EFC3EFD3EFD#1024,
   0x3EFD3EFE3EFE3EFE3EFE3EFF3EFF3EFF3F003F003F003F003F013F013F013F013F023F023F023F033F033F033F033F043F043F043F043F053F053F053F063F063F063F063F073F073F073F073F083F083F083F093F093F093F093F0A3F0A3F0A3F0A3F0B3F0B3F0B3F0C3F0C3F0C3F0C3F0D3F0D3F0D3F0D3F0E3F0E3F0E3F0F#1024,
   0x3F0F3F0F3F0F3F103F103F103F103F113F113F113F113F123F123F123F133F133F133F133F143F143F143F143F153F153F153F153F163F163F163F173F173F173F173F183F183F183F183F193F193F193F193F1A3F1A3F1A3F1A3F1B3F1B3F1B3F1C3F1C3F1C3F1C3F1D3F1D3F1D3F1D3F1E3F1E3F1E3F1E3F1F3F1F3F1F3F1F#1024,
   0x3F203F203F203F203F213F213F213F213F223F223F223F233F233F233F233F243F243F243F243F253F253F253F253F263F263F263F263F273F273F273F273F283F283F283F283F293F293F293F293F2A3F2A3F2A3F2A3F2B3F2B3F2B3F2B3F2C3F2C3F2C3F2C3F2D3F2D3F2D3F2D3F2E3F2E3F2E3F2E3F2F3F2F3F2F3F2F3F30#1024,
   0x3F303F303F303F313F313F313F313F323F323F323F323F333F333F333F333F343F343F343F343F353F353F353F353F363F363F363F363F373F373F373F373F383F383F383F383F393F393F393F393F3A3F3A3F3A3F3A3F3B3F3B3F3B3F3B3F3C3F3C3F3C3F3C3F3C3F3D3F3D3F3D3F3D3F3E3F3E3F3E3F3E3F3F3F3F3F3F3F3F#1024,
   0x3F403F403F403F403F413F413F413F413F423F423F423F423F423F433F433F433F433F443F443F443F443F453F453F453F453F463F463F463F463F473F473F473F473F473F483F483F483F483F493F493F493F493F4A3F4A3F4A3F4A3F4A3F4B3F4B3F4B3F4B3F4C3F4C3F4C3F4C3F4D3F4D3F4D3F4D3F4E3F4E3F4E3F4E3F4E#1024,
   0x3F4F3F4F3F4F3F4F3F503F503F503F503F513F513F513F513F513F523F523F523F523F533F533F533F533F533F543F543F543F543F553F553F553F553F563F563F563F563F563F573F573F573F573F583F583F583F583F583F593F593F593F593F5A3F5A3F5A3F5A3F5A3F5B3F5B3F5B3F5B3F5C3F5C3F5C3F5C3F5C3F5D3F5D#1024,
   0x3F5D3F5D3F5E3F5E3F5E3F5E3F5E3F5F3F5F3F5F3F5F3F603F603F603F603F603F613F613F613F613F623F623F623F623F623F633F633F633F633F633F643F643F643F643F653F653F653F653F653F663F663F663F663F663F673F673F673F673F683F683F683F683F683F693F693F693F693F693F6A3F6A3F6A3F6A3F6B3F6B#1024,
   0x3F6B3F6B3F6B3F6C3F6C3F6C3F6C3F6C3F6D3F6D3F6D3F6D3F6D3F6E3F6E3F6E3F6E3F6F3F6F3F6F3F6F3F6F3F703F703F703F703F703F713F713F713F713F713F723F723F723F723F723F733F733F733F733F733F743F743F743F743F753F753F753F753F753F763F763F763F763F763F773F773F773F773F773F783F783F78#1024,
   0x3F783F783F793F793F793F793F793F7A3F7A3F7A3F7A3F7A3F7B3F7B3F7B3F7B3F7B3F7C3F7C3F7C3F7C3F7C3F7D3F7D3F7D3F7D3F7D3F7E3F7E3F7E3F7E3F7E3F7F3F7F3F7F3F7F3F7F3F803F803F803F803F803F813F813F813F813F813F813F823F823F823F823F823F833F833F833F833F833F843F843F843F843F843F85#1024,
   0x3F853F853F853F853F863F863F863F863F863F873F873F873F873F873F873F883F883F883F883F883F893F893F893F893F893F8A3F8A3F8A3F8A3F8A3F8A3F8B3F8B3F8B3F8B3F8B3F8C3F8C3F8C3F8C3F8C3F8D3F8D3F8D3F8D3F8D3F8D3F8E3F8E3F8E3F8E3F8E3F8F3F8F3F8F3F8F3F8F3F903F903F903F903F903F903F91#1024,
   0x3F913F913F913F913F923F923F923F923F923F923F933F933F933F933F933F943F943F943F943F943F943F953F953F953F953F953F953F963F963F963F963F963F973F973F973F973F973F973F983F983F983F983F983F993F993F993F993F993F993F9A3F9A3F9A3F9A3F9A3F9A3F9B3F9B3F9B3F9B3F9B3F9B3F9C3F9C3F9C#1024,
   0x3F9C3F9C3F9D3F9D3F9D3F9D3F9D3F9D3F9E3F9E3F9E3F9E3F9E3F9E3F9F3F9F3F9F3F9F3F9F3F9F3FA03FA03FA03FA03FA03FA03FA13FA13FA13FA13FA13FA13FA23FA23FA23FA23FA23FA23FA33FA33FA33FA33FA33FA33FA43FA43FA43FA43FA43FA43FA53FA53FA53FA53FA53FA53FA63FA63FA63FA63FA63FA63FA73FA7#1024,
   0x3FA73FA73FA73FA73FA83FA83FA83FA83FA83FA83FA93FA93FA93FA93FA93FA93FAA3FAA3FAA3FAA3FAA3FAA3FAB3FAB3FAB3FAB3FAB3FAB3FAB3FAC3FAC3FAC3FAC3FAC3FAC3FAD3FAD3FAD3FAD3FAD3FAD3FAE3FAE3FAE3FAE3FAE3FAE3FAE3FAF3FAF3FAF3FAF3FAF3FAF3FB03FB03FB03FB03FB03FB03FB03FB13FB13FB1#1024]

/-- Entries 15360 to 16383 of TRIG_Q: 16 rows of 64 entries of 16 bits, the first entry of a row most significant. -/
def trigRows15 : Vector (BitVec 1024) 16 :=
  #v[0x3FB13FB13FB13FB23FB23FB23FB23FB23FB23FB23FB33FB33FB33FB33FB33FB33FB43FB43FB43FB43FB43FB43FB43FB53FB53FB53FB53FB53FB53FB63FB63FB63FB63FB63FB63FB63FB73FB73FB73FB73FB73FB73FB73FB83FB83FB83FB83FB83FB83FB83FB93FB93FB93FB93FB93FB93FB93FBA3FBA3FBA3FBA3FBA3FBA3FBB#1024,
   0x3FBB3FBB3FBB3FBB3FBB3FBB3FBC3FBC3FBC3FBC3FBC3FBC3FBC3FBD3FBD3FBD3FBD3FBD3FBD3FBD3FBE3FBE3FBE3FBE3FBE3FBE3FBE3FBE3FBF3FBF3FBF3FBF3FBF3FBF3FBF3FC03FC03FC03FC03FC03FC03FC03FC13FC13FC13FC13FC13FC13FC13FC23FC23FC23FC23FC23FC23FC23FC33FC33FC33FC33FC33FC33FC33FC3#1024,
   0x3FC43FC43FC43FC43FC43FC43FC43FC53FC53FC53FC53FC53FC53FC53FC53FC63FC63FC63FC63FC63FC63FC63FC73FC73FC73FC73FC73FC73FC73FC73FC83FC83FC83FC83FC83FC83FC83FC83FC93FC93FC93FC93FC93FC93FC93FC93FCA3FCA3FCA3FCA3FCA3FCA3FCA3FCB3FCB3FCB3FCB3FCB3FCB3FCB3FCB3FCC3FCC3FCC#1024,
   0x3FCC3FCC3FCC3FCC3FCC3FCD3FCD3FCD3FCD3FCD3FCD3FCD3FCD3FCE3FCE3FCE3FCE3FCE3FCE3FCE3FCE3FCE3FCF3FCF3FCF3FCF3FCF3FCF3FCF3FCF3FD03FD03FD03FD03FD03FD03FD03FD03FD13FD13FD13FD13FD13FD13FD13FD13FD23FD23FD23FD23FD23FD23FD23FD23FD23FD33FD33FD33FD33FD33FD33FD33FD33FD3#1024,
   0x3FD43FD43FD43FD43FD43FD43FD43FD43FD53FD53FD53FD53FD53FD53FD53FD53FD53FD63FD63FD63FD63FD63FD63FD63FD63FD63FD73FD73FD73FD73FD73FD73FD73FD73FD73FD83FD83FD83FD83FD83FD83FD83FD83FD83FD93FD93FD93FD93FD93FD93FD93FD93FD93FDA3FDA3FDA3FDA3FDA3FDA3FDA3FDA3FDA3FDA3FDB#1024,
   0x3FDB3FDB3FDB3FDB3FDB3FDB3FDB3FDB3FDC3FDC3FDC3FDC3FDC3FDC3FDC3FDC3FDC3FDC3FDD3FDD3FDD3FDD3FDD3FDD3FDD3FDD3FDD3FDE3FDE3FDE3FDE3FDE3FDE3FDE3FDE3FDE3FDE3FDF3FDF3FDF3FDF3FDF3FDF3FDF3FDF3FDF3FDF3FE03FE03FE03FE03FE03FE03FE03FE03FE03FE03FE03FE13FE13FE13FE13FE13FE1#1024,
   0x3FE13FE13FE13FE13FE23FE23FE23FE23FE23FE23FE23FE23FE23FE23FE33FE33FE33FE33FE33FE33FE33FE33FE33FE33FE33FE43FE43FE43FE43FE43FE43FE43FE43FE43FE43FE43FE53FE53FE53FE53FE53FE53FE53FE53FE53FE53FE53FE63FE63FE63FE63FE63FE63FE63FE63FE63FE63FE63FE73FE73FE73FE73FE73FE7#1024,
   0x3FE73FE73FE73FE73FE73FE73FE83FE83FE83FE83FE83FE83FE83FE83FE83FE83FE83FE83FE93FE93FE93FE93FE93FE93FE93FE93FE93FE93FE93FE93FEA3FEA3FEA3FEA3FEA3FEA3FEA3FEA3FEA3FEA3FEA3FEA3FEB3FEB3FEB3FEB3FEB3FEB3FEB3FEB3FEB3FEB3FEB3FEB3FEB3FEC3FEC3FEC3FEC3FEC3FEC3FEC3FEC3FEC#1024,
   0x3FEC3FEC3FEC3FEC3FED3FED3FED3FED3FED3FED3FED3FED3FED3FED3FED3FED3FED3FEE3FEE3FEE3FEE3FEE3FEE3FEE3FEE3FEE3FEE3FEE3FEE3FEE3FEF3FEF3FEF3FEF3FEF3FEF3FEF3FEF3FEF3FEF3FEF3FEF3FEF3FEF3FF03FF03FF03FF03FF03FF03FF03FF03FF03FF03FF03FF03FF03FF03FF03FF13FF13FF13FF13FF1#1024,
   0x3FF13FF13FF13FF13FF13FF13FF13FF13FF13FF13FF23FF23FF23FF23FF23FF23FF23FF23FF23FF23FF23FF23FF23FF23FF23FF33FF33FF33FF33FF33FF33FF33FF33FF33FF33FF33FF33FF33FF33FF33FF33FF43FF43FF43FF43FF43FF43FF43FF43FF43FF43FF43FF43FF43FF43FF43FF43FF43FF53FF53FF53FF53FF53FF5#1024,
   0x3FF53FF53FF53FF53FF53FF53FF53FF53FF53FF53FF53FF63FF63FF63FF63FF63FF63FF63FF63FF63FF63FF63FF63FF63FF63FF63FF63FF63FF63FF73FF73FF73FF73FF73FF73FF73FF73FF73FF73FF73FF73FF73FF73FF73FF73FF73FF73FF73FF73FF83FF83FF83FF83FF83FF83FF83FF83FF83FF83FF83FF83FF83FF83FF8#1024,
   0x3FF83FF83FF83FF83FF83FF93FF93FF93FF93FF93FF93FF93FF93FF93FF93FF93FF93FF93FF93FF93FF93FF93FF93FF93FF93FF93FF93FFA3FFA3FFA3FFA3FFA3FFA3FFA3FFA3FFA3FFA3FFA3FFA3FFA3FFA3FFA3FFA3FFA3FFA3FFA3FFA3FFA3FFA3FFA3FFB3FFB3FFB3FFB3FFB3FFB3FFB3FFB3FFB3FFB3FFB3FFB3FFB3FFB#1024,
   0x3FFB3FFB3FFB3FFB3FFB3FFB3FFB3FFB3FFB3FFB3FFB3FFB3FFC3FFC3FFC3FFC3FFC3FFC3FFC3FFC3FFC3FFC3FFC3FFC3FFC3FFC3FFC3FFC3FFC3FFC3FFC3FFC3FFC3FFC3FFC3FFC3FFC3FFC3FFC3FFC3FFC3FFD3FFD3FFD3FFD3FFD3FFD3FFD3FFD3FFD3FFD3FFD3FFD3FFD3FFD3FFD3FFD3FFD3FFD3FFD3FFD3FFD3FFD3FFD#1024,
   0x3FFD3FFD3FFD3FFD3FFD3FFD3FFD3FFD3FFD3FFD3FFE3FFE3FFE3FFE3FFE3FFE3FFE3FFE3FFE3FFE3FFE3FFE3FFE3FFE3FFE3FFE3FFE3FFE3FFE3FFE3FFE3FFE3FFE3FFE3FFE3FFE3FFE3FFE3FFE3FFE3FFE3FFE3FFE3FFE3FFE3FFE3FFE3FFE3FFE3FFE3FFE3FFF3FFF3FFF3FFF3FFF3FFF3FFF3FFF3FFF3FFF3FFF3FFF3FFF#1024,
   0x3FFF3FFF3FFF3FFF3FFF3FFF3FFF3FFF3FFF3FFF3FFF3FFF3FFF3FFF3FFF3FFF3FFF3FFF3FFF3FFF3FFF3FFF3FFF3FFF3FFF3FFF3FFF3FFF3FFF3FFF3FFF3FFF3FFF3FFF3FFF3FFF3FFF3FFF3FFF3FFF3FFF3FFF3FFF3FFF3FFF3FFF3FFF40004000400040004000400040004000400040004000400040004000400040004000#1024,
   0x4000400040004000400040004000400040004000400040004000400040004000400040004000400040004000400040004000400040004000400040004000400040004000400040004000400040004000400040004000400040004000400040004000400040004000400040004000400040004000400040004000400040004000#1024]

/-- TRIG_Q, the default instance of R163 (UNVERIFIED, log 11). -/
def defaultRom : SineRom :=
  { blocks :=
      #v[trigRows0, trigRows1, trigRows2, trigRows3, trigRows4, trigRows5, trigRows6, trigRows7,
        trigRows8, trigRows9, trigRows10, trigRows11, trigRows12, trigRows13, trigRows14, trigRows15]
    top := 16384#16 }

end Sys2Proof.Machine
end

