-- ==== Sys2Proof/Machine/Hardware.lean ====
section
/-!
DEFINITION. The configuration of this hardware, the column "this hardware" of 00_scope.md R7 (UNVERIFIED, log 9).
-/

namespace Sys2Proof.Machine

/-- The build-time parameters at the values of this hardware (00_scope.md R7, R19). -/
def hardware : Config :=
  { nch := 4, pktLen := 57, marker := 0x54#8, outDepth := 16, crcTable := defaultCrcTable, trigQ := defaultRom }

end Sys2Proof.Machine
end

