-- ==== Sys2Proof/Syntax.lean ====
section
/-!
DEFINITION. The event-word rows of spec/opcode_table.json, one constructor of `Instr` per row, with the
operands of the row: the bits of the event word the row's mask leaves open (30_encoding.md R101 to R107) and
the operands that are no part of the word (the data word of a bus write, R102; the channel of an RX step, R103).
Bits a class does not define are ignored by decode (R101) and are no operand, except in the rows whose rule
names the whole word (44_scheduler.md R207).
-/

namespace Sys2Proof

/-- The registers of 10_state.md R28. -/
inductive BusReg where
  | id | ctrl | status | round | filtDist | filtInt | timeout
  | chCfg (c : Chan) | chAng (c : Chan) | chPos (c : Chan) | chStat (c : Chan)
  | cntOk (c : Chan) | cntCrc (c : Chan) | cntTmo (c : Chan) | cntRej (c : Chan)
  deriving DecidableEq, Repr

/-- One step of the block: the row of spec/opcode_table.json that its event word selects, with its operands. -/
inductive Instr where
  /-- RD_ID (R222) -/
  | rdId
  /-- RD_CTRL (R223) -/
  | rdCtrl
  /-- RD_STATUS (R224) -/
  | rdStatus
  /-- RD_ROUND (R225) -/
  | rdRound
  /-- RD_FILT_DIST (R226) -/
  | rdFiltDist
  /-- RD_FILT_INT (R227) -/
  | rdFiltInt
  /-- RD_TIMEOUT (R228) -/
  | rdTimeout
  /-- RD_CH_CFG (R229) -/
  | rdChCfg (c : Chan)
  /-- RD_CH_ANG (R230) -/
  | rdChAng (c : Chan)
  /-- RD_CH_POS (R231) -/
  | rdChPos (c : Chan)
  /-- RD_CH_STAT (R232) -/
  | rdChStat (c : Chan)
  /-- RD_CNT_OK (R233) -/
  | rdCntOk (c : Chan)
  /-- RD_CNT_CRC (R234) -/
  | rdCntCrc (c : Chan)
  /-- RD_CNT_TMO (R235) -/
  | rdCntTmo (c : Chan)
  /-- RD_CNT_REJ (R236) -/
  | rdCntRej (c : Chan)
  /-- RD_UNMAPPED (R252) -/
  | rdUnmapped (a : Addr)
  /-- WR_ID (R237) -/
  | wrId (d : Word)
  /-- WR_CTRL (R238) -/
  | wrCtrl (d : Word)
  /-- WR_STATUS (R239) -/
  | wrStatus (d : Word)
  /-- WR_ROUND (R240) -/
  | wrRound (d : Word)
  /-- WR_FILT_DIST (R241) -/
  | wrFiltDist (d : Word)
  /-- WR_FILT_INT (R242) -/
  | wrFiltInt (d : Word)
  /-- WR_TIMEOUT (R243) -/
  | wrTimeout (d : Word)
  /-- WR_CH_CFG (R244) -/
  | wrChCfg (c : Chan) (d : Word)
  /-- WR_CH_ANG (R245) -/
  | wrChAng (c : Chan) (d : Word)
  /-- WR_CH_POS (R246) -/
  | wrChPos (c : Chan) (d : Word)
  /-- WR_CH_STAT (R247) -/
  | wrChStat (c : Chan) (d : Word)
  /-- WR_CNT_OK (R248) -/
  | wrCntOk (c : Chan) (d : Word)
  /-- WR_CNT_CRC (R249) -/
  | wrCntCrc (c : Chan) (d : Word)
  /-- WR_CNT_TMO (R250) -/
  | wrCntTmo (c : Chan) (d : Word)
  /-- WR_CNT_REJ (R251) -/
  | wrCntRej (c : Chan) (d : Word)
  /-- WR_UNMAPPED (R253) -/
  | wrUnmapped (a : Addr) (d : Word)
  /-- RX_DRAIN (R134): CHEN = 0, any ST, LAST, CRCM, B -/
  | rxDrain (c : Chan) (st : BitVec 2) (last crcm : Bool) (b : Byte)
  /-- RX_MARKER (R131): CHEN = 1, ST = SEARCH, B = MARKER -/
  | rxMarker (c : Chan) (last crcm : Bool)
  /-- RX_SKIP (R137): CHEN = 1, ST = SEARCH, B other than MARKER -/
  | rxSkip (c : Chan) (last crcm : Bool) (b : Byte)
  /-- RX_DATA (R132): CHEN = 1, ST = ACCUM, LAST = 0 -/
  | rxData (c : Chan) (crcm : Bool) (b : Byte)
  /-- RX_CHECK_OK (R133): CHEN = 1, ST = ACCUM, LAST = 1, CRCM = 1 -/
  | rxCheckOk (c : Chan) (b : Byte)
  /-- RX_CHECK_BAD (R136): CHEN = 1, ST = ACCUM, LAST = 1, CRCM = 0 -/
  | rxCheckBad (c : Chan) (b : Byte)
  /-- RX_RESERVED (R138): CHEN = 1, ST = READY or 3 -/
  | rxReserved (c : Chan) (st : BitVec 2) (last crcm : Bool) (b : Byte)
  /-- VISIT_OFF (R194): CHEN = 0, any ST -/
  | visitOff (st : BitVec 2)
  /-- VISIT_IDLE (R193): CHEN = 1, ST = SEARCH -/
  | visitIdle
  /-- VISIT_AGE (R192): CHEN = 1, ST = ACCUM -/
  | visitAge
  /-- VISIT_DISPATCH (R191): CHEN = 1, ST = READY -/
  | visitDispatch
  /-- VISIT_RESERVED (R195): CHEN = 1, ST = 3; the low bits are kept so that the fault names the word -/
  | visitReserved (low : BitVec 10)
  /-- XF_REJECT (R204): ACC = 0 -/
  | xfReject
  /-- XF_ACCEPT (R203): ACC = 1 -/
  | xfAccept
  /-- OUT_POP (R205) -/
  | outPop
  /-- RESET (R290) -/
  | reset
  /-- EV_RESERVED (R207): classes 110 and 111; the low bits are kept so that the fault names the word -/
  | evReserved (low : BitVec 14)
  deriving DecidableEq, Repr

/-- An event as a step takes it: its event word and the operands that are no part of the word, the channel of an
RX step (30_encoding.md R103) and the data word of a bus write (R102). -/
structure Event where
  word : EventWord
  chan : Chan
  data : Word
  deriving DecidableEq, Repr

/-- The channel operand an instruction carries outside its event word; channel 0 where it has none. -/
def Instr.chanOperand : Instr → Chan
  | .rxDrain c _ _ _ _ | .rxMarker c _ _ | .rxSkip c _ _ _ | .rxData c _ _ | .rxCheckOk c _
  | .rxCheckBad c _ | .rxReserved c _ _ _ _ => c
  | _ => 0

/-- The data operand an instruction carries outside its event word; 0 where it has none. -/
def Instr.dataOperand : Instr → Word
  | .wrId d | .wrCtrl d | .wrStatus d | .wrRound d | .wrFiltDist d | .wrFiltInt d | .wrTimeout d
  | .wrChCfg _ d | .wrChAng _ d | .wrChPos _ d | .wrChStat _ d | .wrCntOk _ d | .wrCntCrc _ d
  | .wrCntTmo _ d | .wrCntRej _ d | .wrUnmapped _ d => d
  | _ => 0

end Sys2Proof
end

