-- ==== Sys2Proof/WellFormed.lean ====
section
/-!
DEFINITION. The instructions that stand for an event word of their row in a configuration: a register of a channel is
one of the NCH channels, an unmapped access is at an unmapped address, RX_SKIP does not carry the marker, and RX_RESERVED
carries a reserved state (30_encoding.md R108, R109).
-/

namespace Sys2Proof

/-- The mapped addresses of the register space, 10_state.md R28: the seven global words and eight words for
each channel. -/
def mappedAddrs (cfg : Config) : List Nat :=
  [0x000, 0x004, 0x008, 0x00C, 0x010, 0x014, 0x018]
    ++ (List.range cfg.nch).flatMap fun c => (List.range 8).map fun i => 0x100 + 0x20 * c + 4 * i

/-- Whether an address is one that 10_state.md R28 maps to a register (20_memory.md R73, R74). -/
def Mapped (cfg : Config) (a : Addr) : Bool := (mappedAddrs cfg).contains a.toNat

/-- An instruction is well-formed when its operands are ones its row of the opcode table decodes to. -/
def Instr.WellFormed (cfg : Config) : Instr → Bool
  | .rdUnmapped a => !Mapped cfg a
  | .wrUnmapped a _ => !Mapped cfg a
  | .rxSkip _ _ _ b => b != cfg.marker
  | .rxReserved _ st _ _ _ => st == 2#2 || st == 3#2
  | .rdChCfg c | .rdChAng c | .rdChPos c | .rdChStat c
  | .rdCntOk c | .rdCntCrc c | .rdCntTmo c | .rdCntRej c
  | .wrChCfg c _ | .wrChAng c _ | .wrChPos c _ | .wrChStat c _
  | .wrCntOk c _ | .wrCntCrc c _ | .wrCntTmo c _ | .wrCntRej c _ => decide (c.val < cfg.nch)
  | .rdId | .rdCtrl | .rdStatus | .rdRound | .rdFiltDist | .rdFiltInt | .rdTimeout
  | .wrId _ | .wrCtrl _ | .wrStatus _ | .wrRound _ | .wrFiltDist _ | .wrFiltInt _ | .wrTimeout _
  | .rxDrain _ _ _ _ _ | .rxMarker _ _ _ | .rxData _ _ _ | .rxCheckOk _ _ | .rxCheckBad _ _
  | .visitOff _ | .visitIdle | .visitAge | .visitDispatch | .visitReserved _
  | .xfReject | .xfAccept | .outPop | .reset | .evReserved _ => true

end Sys2Proof
end

