-- ==== Sys2Proof/Decode.lean ====
section
/-!
DEFINITION. The event word: how the fields of 30_encoding.md R101 to R107 are laid out, the decoder from an
event to its row (R99, R101, R108), the encoder back, and the opcode table itself as data (R108, R113).
The decoder is total: every one of the 65536 words is one row, and the reserved words decode to the three
reserved rows by name (R109). Decoding depends on the configuration by NCH and MARKER (R108).
-/

namespace Sys2Proof

/-! ## The fields of the event word -/

/-- BUS class: E = (000, WE, A[11:0]) (R102). -/
def busWord (we : Bool) (a : Addr) : EventWord := 0#3 ++ BitVec.ofBool we ++ a

/-- RX class: E = (001, CHEN, ST[1:0], LAST, CRCM, B[7:0]) (R103). -/
def rxWord (chen : Bool) (st : BitVec 2) (last crcm : Bool) (b : Byte) : EventWord :=
  1#3 ++ BitVec.ofBool chen ++ st ++ BitVec.ofBool last ++ BitVec.ofBool crcm ++ b

/-- VISIT class: E = (010, CHEN, ST[1:0], low), where a produced word has low = 0 (R104). -/
def visitWord (chen : Bool) (st : BitVec 2) (low : BitVec 10) : EventWord :=
  2#3 ++ BitVec.ofBool chen ++ st ++ low

/-- XF class: E = (011, ACC, 0) (R105). -/
def xfWord (acc : Bool) : EventWord := 3#3 ++ BitVec.ofBool acc ++ 0#12

/-- POP class: E = 0x8000 (R106). -/
def popWord : EventWord := 0x8000#16

/-- RESET class: E = 0xA000 (R107). -/
def resetWord : EventWord := 0xA000#16

/-- The reserved classes 110 and 111: E[15:14] = 11 (R101, R109). -/
def reservedWord (low : BitVec 14) : EventWord := 3#2 ++ low

/-! ## Decode -/

/-- The channel that address bits A[7:5] name, if there is such a channel (R99). -/
def addrChan (cfg : Config) (a : Addr) : Option Chan :=
  let c : Chan := (a.extractLsb' 5 3).toFin
  if c.val < cfg.nch then some c else none

/-- Address decode, R99: the register an address names, or none where the address is misaligned or unmapped. -/
def busTarget (cfg : Config) (a : Addr) : Option BusReg :=
  if a.extractLsb' 0 2 != 0#2 then none
  else if a.extractLsb' 5 7 == 0#7 then
    match (a.extractLsb' 2 3).toNat with
    | 0 => some .id
    | 1 => some .ctrl
    | 2 => some .status
    | 3 => some .round
    | 4 => some .filtDist
    | 5 => some .filtInt
    | 6 => some .timeout
    | _ => none
  else if a.extractLsb' 8 4 == 1#4 then
    (addrChan cfg a).map fun c =>
      match (a.extractLsb' 2 3).toNat with
      | 0 => .chCfg c
      | 1 => .chAng c
      | 2 => .chPos c
      | 3 => .chStat c
      | 4 => .cntOk c
      | 5 => .cntCrc c
      | 6 => .cntTmo c
      | _ => .cntRej c
  else none

/-- A bus read of address a (R222 to R236, R252). -/
def decodeRead (cfg : Config) (a : Addr) : Instr :=
  match busTarget cfg a with
  | some .id => .rdId
  | some .ctrl => .rdCtrl
  | some .status => .rdStatus
  | some .round => .rdRound
  | some .filtDist => .rdFiltDist
  | some .filtInt => .rdFiltInt
  | some .timeout => .rdTimeout
  | some (.chCfg c) => .rdChCfg c
  | some (.chAng c) => .rdChAng c
  | some (.chPos c) => .rdChPos c
  | some (.chStat c) => .rdChStat c
  | some (.cntOk c) => .rdCntOk c
  | some (.cntCrc c) => .rdCntCrc c
  | some (.cntTmo c) => .rdCntTmo c
  | some (.cntRej c) => .rdCntRej c
  | none => .rdUnmapped a

/-- A bus write of data d to address a (R237 to R251, R253). -/
def decodeWrite (cfg : Config) (a : Addr) (d : Word) : Instr :=
  match busTarget cfg a with
  | some .id => .wrId d
  | some .ctrl => .wrCtrl d
  | some .status => .wrStatus d
  | some .round => .wrRound d
  | some .filtDist => .wrFiltDist d
  | some .filtInt => .wrFiltInt d
  | some .timeout => .wrTimeout d
  | some (.chCfg c) => .wrChCfg c d
  | some (.chAng c) => .wrChAng c d
  | some (.chPos c) => .wrChPos c d
  | some (.chStat c) => .wrChStat c d
  | some (.cntOk c) => .wrCntOk c d
  | some (.cntCrc c) => .wrCntCrc c d
  | some (.cntTmo c) => .wrCntTmo c d
  | some (.cntRej c) => .wrCntRej c d
  | none => .wrUnmapped a d

/-- An RX step of channel c, by the fields of its word (R103; rows of 41_frame_decoder.md R131 to R138). -/
def decodeRx (cfg : Config) (c : Chan) (chen : Bool) (st : BitVec 2) (last crcm : Bool) (b : Byte) : Instr :=
  if chen then
    match st.toNat with
    | 0 => if b == cfg.marker then .rxMarker c last crcm else .rxSkip c last crcm b
    | 1 => if last then (if crcm then .rxCheckOk c b else .rxCheckBad c b) else .rxData c crcm b
    | _ => .rxReserved c st last crcm b
  else .rxDrain c st last crcm b

/-- A VISIT step, by the fields of its word (R104; rows of 44_scheduler.md R191 to R195). -/
def decodeVisit (chen : Bool) (st : BitVec 2) (low : BitVec 10) : Instr :=
  if chen then
    match st.toNat with
    | 0 => .visitIdle
    | 1 => .visitAge
    | 2 => .visitDispatch
    | _ => .visitReserved low
  else .visitOff st

/-- The row an event selects (R101, R108): by its class E[15:13], then by the class's fields. -/
def decode (cfg : Config) (e : Event) : Instr :=
  let w := e.word
  match (w.extractLsb' 13 3).toNat with
  | 0 =>
    if w.getLsbD 12 then decodeWrite cfg (w.extractLsb' 0 12) e.data else decodeRead cfg (w.extractLsb' 0 12)
  | 1 =>
    decodeRx cfg e.chan (w.getLsbD 12) (w.extractLsb' 10 2) (w.getLsbD 9) (w.getLsbD 8) (w.extractLsb' 0 8)
  | 2 => decodeVisit (w.getLsbD 12) (w.extractLsb' 10 2) (w.extractLsb' 0 10)
  | 3 => if w.getLsbD 12 then .xfAccept else .xfReject
  | 4 => .outPop
  | 5 => .reset
  | _ => .evReserved (w.extractLsb' 0 14)

/-- The event of the low `nbits` bits `w` of an event word whose remaining bits are 0, with the operands that are no
part of the word at channel 0 and data 0. An event is one 16-bit word (R110): a longer pattern is none. -/
def tableEvent (nbits w : Nat) : Option Event :=
  if nbits ≤ 16 ∧ w < 2 ^ nbits then some { word := BitVec.ofNat 16 w, chan := 0, data := 0#32 } else none

/-- The instruction this hardware's decoder reads from such an event word. -/
def decodeTableWord (nbits w : Nat) : Option Instr := (tableEvent nbits w).map (decode Machine.hardware)

/-! ## Encode -/

/-- The address of a register, 10_state.md R28. -/
def regAddr : BusReg → Addr
  | .id => 0x000#12
  | .ctrl => 0x004#12
  | .status => 0x008#12
  | .round => 0x00C#12
  | .filtDist => 0x010#12
  | .filtInt => 0x014#12
  | .timeout => 0x018#12
  | .chCfg c => BitVec.ofNat 12 (0x100 + 0x20 * c.val)
  | .chAng c => BitVec.ofNat 12 (0x104 + 0x20 * c.val)
  | .chPos c => BitVec.ofNat 12 (0x108 + 0x20 * c.val)
  | .chStat c => BitVec.ofNat 12 (0x10C + 0x20 * c.val)
  | .cntOk c => BitVec.ofNat 12 (0x110 + 0x20 * c.val)
  | .cntCrc c => BitVec.ofNat 12 (0x114 + 0x20 * c.val)
  | .cntTmo c => BitVec.ofNat 12 (0x118 + 0x20 * c.val)
  | .cntRej c => BitVec.ofNat 12 (0x11C + 0x20 * c.val)

/-- The event word of an instruction, every bit its class leaves undefined 0 (R101 to R107). -/
def encode (cfg : Config) : Instr → EventWord
  | .rdId => busWord false (regAddr .id)
  | .rdCtrl => busWord false (regAddr .ctrl)
  | .rdStatus => busWord false (regAddr .status)
  | .rdRound => busWord false (regAddr .round)
  | .rdFiltDist => busWord false (regAddr .filtDist)
  | .rdFiltInt => busWord false (regAddr .filtInt)
  | .rdTimeout => busWord false (regAddr .timeout)
  | .rdChCfg c => busWord false (regAddr (.chCfg c))
  | .rdChAng c => busWord false (regAddr (.chAng c))
  | .rdChPos c => busWord false (regAddr (.chPos c))
  | .rdChStat c => busWord false (regAddr (.chStat c))
  | .rdCntOk c => busWord false (regAddr (.cntOk c))
  | .rdCntCrc c => busWord false (regAddr (.cntCrc c))
  | .rdCntTmo c => busWord false (regAddr (.cntTmo c))
  | .rdCntRej c => busWord false (regAddr (.cntRej c))
  | .rdUnmapped a => busWord false a
  | .wrId _ => busWord true (regAddr .id)
  | .wrCtrl _ => busWord true (regAddr .ctrl)
  | .wrStatus _ => busWord true (regAddr .status)
  | .wrRound _ => busWord true (regAddr .round)
  | .wrFiltDist _ => busWord true (regAddr .filtDist)
  | .wrFiltInt _ => busWord true (regAddr .filtInt)
  | .wrTimeout _ => busWord true (regAddr .timeout)
  | .wrChCfg c _ => busWord true (regAddr (.chCfg c))
  | .wrChAng c _ => busWord true (regAddr (.chAng c))
  | .wrChPos c _ => busWord true (regAddr (.chPos c))
  | .wrChStat c _ => busWord true (regAddr (.chStat c))
  | .wrCntOk c _ => busWord true (regAddr (.cntOk c))
  | .wrCntCrc c _ => busWord true (regAddr (.cntCrc c))
  | .wrCntTmo c _ => busWord true (regAddr (.cntTmo c))
  | .wrCntRej c _ => busWord true (regAddr (.cntRej c))
  | .wrUnmapped a _ => busWord true a
  | .rxDrain _ st last crcm b => rxWord false st last crcm b
  | .rxMarker _ last crcm => rxWord true 0#2 last crcm cfg.marker
  | .rxSkip _ last crcm b => rxWord true 0#2 last crcm b
  | .rxData _ crcm b => rxWord true 1#2 false crcm b
  | .rxCheckOk _ b => rxWord true 1#2 true true b
  | .rxCheckBad _ b => rxWord true 1#2 true false b
  | .rxReserved _ st last crcm b => rxWord true st last crcm b
  | .visitOff st => visitWord false st 0#10
  | .visitIdle => visitWord true 0#2 0#10
  | .visitAge => visitWord true 1#2 0#10
  | .visitDispatch => visitWord true 2#2 0#10
  | .visitReserved low => visitWord true 3#2 low
  | .xfReject => xfWord false
  | .xfAccept => xfWord true
  | .outPop => popWord
  | .reset => resetWord
  | .evReserved low => reservedWord low

/-- The event an instruction stands for: its word and the operands that are no part of the word. -/
def Instr.event (cfg : Config) (i : Instr) : Event :=
  { word := encode cfg i, chan := i.chanOperand, data := i.dataOperand }

/-! ## The opcode table as data -/

/-- The rows of spec/opcode_table.json in decode order (R108, R113): mnemonic, match, mask, and whether the row
needs A[7:5] < NCH. The low byte of the RX_MARKER row's match is the MARKER parameter (R108). -/
def opcodeTable (cfg : Config) : List (String × Nat × Nat × Bool) :=
  [("RD_ID", 0x0000, 0xFFFF, false), ("RD_CTRL", 0x0004, 0xFFFF, false),
   ("RD_STATUS", 0x0008, 0xFFFF, false), ("RD_ROUND", 0x000C, 0xFFFF, false),
   ("RD_FILT_DIST", 0x0010, 0xFFFF, false), ("RD_FILT_INT", 0x0014, 0xFFFF, false),
   ("RD_TIMEOUT", 0x0018, 0xFFFF, false), ("RD_CH_CFG", 0x0100, 0xFF1F, true),
   ("RD_CH_ANG", 0x0104, 0xFF1F, true), ("RD_CH_POS", 0x0108, 0xFF1F, true),
   ("RD_CH_STAT", 0x010C, 0xFF1F, true), ("RD_CNT_OK", 0x0110, 0xFF1F, true),
   ("RD_CNT_CRC", 0x0114, 0xFF1F, true), ("RD_CNT_TMO", 0x0118, 0xFF1F, true),
   ("RD_CNT_REJ", 0x011C, 0xFF1F, true), ("RD_UNMAPPED", 0x0000, 0xF000, false)]
  ++ [("WR_ID", 0x1000, 0xFFFF, false), ("WR_CTRL", 0x1004, 0xFFFF, false),
   ("WR_STATUS", 0x1008, 0xFFFF, false), ("WR_ROUND", 0x100C, 0xFFFF, false),
   ("WR_FILT_DIST", 0x1010, 0xFFFF, false), ("WR_FILT_INT", 0x1014, 0xFFFF, false),
   ("WR_TIMEOUT", 0x1018, 0xFFFF, false), ("WR_CH_CFG", 0x1100, 0xFF1F, true),
   ("WR_CH_ANG", 0x1104, 0xFF1F, true), ("WR_CH_POS", 0x1108, 0xFF1F, true),
   ("WR_CH_STAT", 0x110C, 0xFF1F, true), ("WR_CNT_OK", 0x1110, 0xFF1F, true),
   ("WR_CNT_CRC", 0x1114, 0xFF1F, true), ("WR_CNT_TMO", 0x1118, 0xFF1F, true),
   ("WR_CNT_REJ", 0x111C, 0xFF1F, true), ("WR_UNMAPPED", 0x1000, 0xF000, false)]
  ++ [("RX_DRAIN", 0x2000, 0xF000, false), ("RX_MARKER", 0x3000 + cfg.marker.toNat, 0xFCFF, false),
   ("RX_SKIP", 0x3000, 0xFC00, false), ("RX_DATA", 0x3400, 0xFE00, false),
   ("RX_CHECK_OK", 0x3700, 0xFF00, false), ("RX_CHECK_BAD", 0x3600, 0xFF00, false),
   ("RX_RESERVED", 0x3800, 0xF800, false)]
  ++ [("VISIT_OFF", 0x4000, 0xF000, false), ("VISIT_IDLE", 0x5000, 0xFC00, false),
   ("VISIT_AGE", 0x5400, 0xFC00, false), ("VISIT_DISPATCH", 0x5800, 0xFC00, false),
   ("VISIT_RESERVED", 0x5C00, 0xFC00, false), ("XF_REJECT", 0x6000, 0xF000, false),
   ("XF_ACCEPT", 0x7000, 0xF000, false), ("OUT_POP", 0x8000, 0xE000, false),
   ("RESET", 0xA000, 0xE000, false), ("EV_RESERVED", 0xC000, 0xC000, false)]

/-- Whether a row of the opcode table fits an event word: E AND mask = match, and the channel condition (R108). -/
def rowFits (cfg : Config) (row : String × Nat × Nat × Bool) (w : EventWord) : Bool :=
  (w &&& BitVec.ofNat 16 row.2.2.1) == BitVec.ofNat 16 row.2.1
    && (!row.2.2.2 || decide ((w.extractLsb' 5 3).toNat < cfg.nch))

/-- The mnemonic of the first row of the opcode table that fits an event word (R108). -/
def tableMnemonic (cfg : Config) (w : EventWord) : Option String :=
  ((opcodeTable cfg).find? fun row => rowFits cfg row w).map fun row => row.1

/-- The mnemonic of an instruction's row in spec/opcode_table.json. -/
def Instr.mnemonic : Instr → String
  | .rdId => "RD_ID"
  | .rdCtrl => "RD_CTRL"
  | .rdStatus => "RD_STATUS"
  | .rdRound => "RD_ROUND"
  | .rdFiltDist => "RD_FILT_DIST"
  | .rdFiltInt => "RD_FILT_INT"
  | .rdTimeout => "RD_TIMEOUT"
  | .rdChCfg _ => "RD_CH_CFG"
  | .rdChAng _ => "RD_CH_ANG"
  | .rdChPos _ => "RD_CH_POS"
  | .rdChStat _ => "RD_CH_STAT"
  | .rdCntOk _ => "RD_CNT_OK"
  | .rdCntCrc _ => "RD_CNT_CRC"
  | .rdCntTmo _ => "RD_CNT_TMO"
  | .rdCntRej _ => "RD_CNT_REJ"
  | .rdUnmapped _ => "RD_UNMAPPED"
  | .wrId _ => "WR_ID"
  | .wrCtrl _ => "WR_CTRL"
  | .wrStatus _ => "WR_STATUS"
  | .wrRound _ => "WR_ROUND"
  | .wrFiltDist _ => "WR_FILT_DIST"
  | .wrFiltInt _ => "WR_FILT_INT"
  | .wrTimeout _ => "WR_TIMEOUT"
  | .wrChCfg _ _ => "WR_CH_CFG"
  | .wrChAng _ _ => "WR_CH_ANG"
  | .wrChPos _ _ => "WR_CH_POS"
  | .wrChStat _ _ => "WR_CH_STAT"
  | .wrCntOk _ _ => "WR_CNT_OK"
  | .wrCntCrc _ _ => "WR_CNT_CRC"
  | .wrCntTmo _ _ => "WR_CNT_TMO"
  | .wrCntRej _ _ => "WR_CNT_REJ"
  | .wrUnmapped _ _ => "WR_UNMAPPED"
  | .rxDrain _ _ _ _ _ => "RX_DRAIN"
  | .rxMarker _ _ _ => "RX_MARKER"
  | .rxSkip _ _ _ _ => "RX_SKIP"
  | .rxData _ _ _ => "RX_DATA"
  | .rxCheckOk _ _ => "RX_CHECK_OK"
  | .rxCheckBad _ _ => "RX_CHECK_BAD"
  | .rxReserved _ _ _ _ _ => "RX_RESERVED"
  | .visitOff _ => "VISIT_OFF"
  | .visitIdle => "VISIT_IDLE"
  | .visitAge => "VISIT_AGE"
  | .visitDispatch => "VISIT_DISPATCH"
  | .visitReserved _ => "VISIT_RESERVED"
  | .xfReject => "XF_REJECT"
  | .xfAccept => "XF_ACCEPT"
  | .outPop => "OUT_POP"
  | .reset => "RESET"
  | .evReserved _ => "EV_RESERVED"

end Sys2Proof
end

