-- ==== Sys2Proof/Machine/State.lean ====
section
/-!
DEFINITION. The state of the machine, plain data: the block's own state, exactly what 10_state.md R20 lists
(`Block`), the environment outside the block that drives it (`Env`, 00_scope.md R10, 10_state.md R27), and the
sticky model fault of 44_scheduler.md R207; the reasons a step can stop; the state right after reset
(10_state.md R44, 70_reset_and_hazards.md R290).
-/

namespace Sys2Proof.Machine

/-! ## Block state -/

/-- The bytes of one packet buffer, as (index, byte) cells: indices strictly rising and no cell holding 0x00,
which is what an unlisted index reads as (10_state.md R22, R23; log 5). -/
abbrev Memory := List Host.Cell

/-- The decoder state SEARCH (10_state.md R22). -/
abbrev SEARCH : BitVec 2 := 0#2

/-- The decoder state ACCUM (10_state.md R22). -/
abbrev ACCUM : BitVec 2 := 1#2

/-- The decoder state READY (10_state.md R22). -/
abbrev READY : BitVec 2 := 2#2

/-- The state held per channel: the frame decoder of 10_state.md R22, the configuration registers CH_CFG, CH_ANG
and CH_POS (R36 to R38) and the diagnostic counters (R42). -/
structure Channel where
  /-- st: 0 SEARCH, 1 ACCUM, 2 READY; 3 is never reached (R22, R47) -/
  st : BitVec 2
  /-- cur: how many bytes of the current packet buf holds, 0..PKT_LEN (R22) -/
  cur : BitVec 7
  /-- crc: the running CRC-8 of the stored bytes (R22) -/
  crc : Byte
  /-- age: scheduler visits since the marker was stored, saturating (R22) -/
  age : Half
  /-- buf: the one packet buffer of the channel (R22) -/
  buf : Memory
  /-- CH_CFG.DEV_ID (R36) -/
  devId : Byte
  /-- CH_CFG.CH_EN (R36) -/
  chEn : Bool
  /-- CH_ANG.ANG_OFF, centidegrees (R37) -/
  angOff : Half
  /-- CH_POS.POS_X, s16 millimetres (R38) -/
  posX : Half
  /-- CH_POS.POS_Y, s16 millimetres (R38) -/
  posY : Half
  /-- CNT_OK (R42) -/
  cntOk : Word
  /-- CNT_CRC (R42) -/
  cntCrc : Word
  /-- CNT_TMO (R42) -/
  cntTmo : Word
  /-- CNT_REJ (R42) -/
  cntRej : Word
  deriving DecidableEq, Repr

/-- The transform unit (10_state.md R25): the sample index and the latched copies of the dispatched packet and of
the configuration at its dispatch. -/
structure Xform where
  /-- xbusy -/
  busy : Bool
  /-- xk, 0..11 -/
  k : SampleIx
  /-- xch -/
  ch : Chan
  /-- xdev -/
  dev : Byte
  /-- xs, centidegrees -/
  startAng : Half
  /-- xe, centidegrees -/
  endAng : Half
  /-- xd[0..11], millimetres -/
  dist : Vector Half NSAMP
  /-- xi[0..11] -/
  inten : Vector Byte NSAMP
  /-- xoff, centidegrees -/
  off : Half
  /-- xpx, s16 millimetres -/
  px : Half
  /-- xpy, s16 millimetres -/
  py : Half
  /-- xmin -/
  minDist : Half
  /-- xmax -/
  maxDist : Half
  /-- xmint -/
  minInt : Byte
  /-- xwrap -/
  wrap : Bool
  /-- xpos -/
  posEn : Bool
  deriving DecidableEq, Repr

/-- An output point record: four 32-bit words (30_encoding.md R100). -/
structure Record where
  w0 : Word
  w1 : Word
  w2 : Word
  w3 : Word
  deriving DecidableEq, Repr

/-- The fields of CTRL (10_state.md R32). -/
structure Ctrl where
  en : Bool
  wrapFix : Bool
  posEn : Bool
  diagEn : Bool
  deriving DecidableEq, Repr

/-- The state of the block: exactly what 10_state.md R20 lists. -/
structure Block where
  /-- the per-channel state (R22, R36 to R38, R42); the block's channels are those below NCH (log 15) -/
  chans : Vector Channel MAX_NCH
  /-- sp, the channel the next visit examines (R24) -/
  sp : Chan
  /-- round, completed rounds (R24, R40) -/
  round : Word
  /-- the transform unit (R25) -/
  xf : Xform
  /-- OUTQ, oldest record first (R26) -/
  outq : List Record
  /-- CTRL (R32) -/
  ctrl : Ctrl
  /-- FILT_DIST.MIN_DIST (R33) -/
  minDist : Half
  /-- FILT_DIST.MAX_DIST (R33) -/
  maxDist : Half
  /-- FILT_INT.MIN_INT (R34) -/
  minInt : Byte
  /-- TIMEOUT.TMO_ROUNDS (R35) -/
  tmoRounds : Half
  deriving DecidableEq, Repr

/-! ## The environment -/

/-- One turn or input, in the stimulus notation of 30_encoding.md R111: who moves next, with the operands it
brings (log 1). -/
inductive Stimulus where
  /-- RD: one bus read of address a -/
  | rd (a : Addr)
  /-- WR: one bus write of d to address a -/
  | wr (a : Addr) (d : Word)
  /-- RX: the environment appends bytes to inq[c]; no step of the block -/
  | rx (c : Chan) (bytes : List Byte)
  /-- TAKE: the decoder of channel c has the turn, for one RX step -/
  | take (c : Chan)
  /-- VISIT: the scheduler has the turn -/
  | visit
  /-- XF: the transform unit has the turn -/
  | xf
  /-- POP: the output consumer has the turn -/
  | pop
  /-- RESET -/
  | reset
  /-- an event presented to the decoder as it is, whatever word the state forms (44_scheduler.md R207; log 4) -/
  | word (e : Event)
  deriving DecidableEq, Repr

/-- The trace label of a step (60_exceptions.md R260, R261): the error event it raised, with its info. The code 1,
FramingError, is a condition and labels no step (41_frame_decoder.md R139). -/
inductive ErrorEvent where
  /-- code 0 -/
  | none
  /-- code 2, of channel c -/
  | checksumError (c : Chan)
  /-- code 3, of channel c, sample k -/
  | rangeRejection (c : Chan) (k : SampleIx)
  /-- code 4, of channel c -/
  | timeoutError (c : Chan)
  deriving DecidableEq, Repr

/-- What stands outside the block (00_scope.md R10): the input queues, the turns still to come, and what the block
has shown at its ports. No field is state of the block (10_state.md R20, R27). -/
structure Env where
  /-- inq[c]: the bytes offered to channel c, head first (R27) -/
  inq : Vector (List Byte) MAX_NCH
  /-- the turns and inputs still to come, next one first (log 1) -/
  stim : List Stimulus
  /-- the word the last bus read returned (20_memory.md R72) -/
  rdata : Word
  /-- the records delivered to the consumer, oldest first (44_scheduler.md R205) -/
  delivered : List Record
  /-- the trace label of the last step (60_exceptions.md R261; log 14) -/
  raised : ErrorEvent
  deriving DecidableEq, Repr

/-! ## The machine -/

/-- The machine: its configuration, the block, its environment, and the sticky model fault (44_scheduler.md R207), which
names the first reserved event word met, if any was. The configuration is no state of the block (10_state.md R20): it is
the argument that 00_scope.md R7 asks a model to take, carried here, and no step changes it (log 9). -/
structure State where
  cfg : Config
  hw : Block
  env : Env
  modelFault : Option EventWord
  deriving DecidableEq, Repr

/-- Why a step faults. -/
inductive Fault where
  /-- Raised by `step` on every step of a machine that has recorded a model fault, naming the event word that was
  recorded (44_scheduler.md R207: such a run satisfies no claim). Safe: the machine only stops. -/
  | modelFault (word : EventWord)
  /-- Raised by RX_DATA where the cursor of channel c lies outside the packet buffer: there is no such byte
  (10_state.md R22; log 8). No reachable state has it (R23). Safe: the machine only stops. -/
  | bufferAddress (c : Chan) (index : Nat)
  deriving DecidableEq, Repr

/-- Why a step is refused. -/
inductive Refusal where
  /-- Raised by an arm of `exec` whose instruction has no meaning yet, naming it; no arm answers so in this model.
  Safe: the machine only stops. -/
  | notModelled (mnemonic : String)
  deriving DecidableEq, Repr

/-! ## Reset -/

/-- The state of channel c after reset (10_state.md R44): SEARCH with nothing stored, DEV_ID c, enabled, the
placeholder offset (9000*c) mod 36000, position 0, counters 0. DESIGN CHOICE: the buffer, which the spec leaves
unspecified, reads 0x00 everywhere (log 5). -/
def Channel.reset (c : Chan) : Channel :=
  { st := SEARCH, cur := 0#7, crc := 0x00#8, age := 0#16, buf := []
    devId := BitVec.ofNat 8 c.val, chEn := true
    angOff := BitVec.ofNat 16 ((9000 * c.val) % 36000), posX := 0#16, posY := 0#16
    cntOk := 0#32, cntCrc := 0#32, cntTmo := 0#32, cntRej := 0#32 }

/-- The transform unit after reset (10_state.md R44): idle at sample 0. DESIGN CHOICE: the latches, which the spec
leaves unspecified, are 0 (log 6). -/
def Xform.reset : Xform :=
  { busy := false, k := 0, ch := 0, dev := 0#8, startAng := 0#16, endAng := 0#16
    dist := Vector.replicate NSAMP 0#16, inten := Vector.replicate NSAMP 0#8
    off := 0#16, px := 0#16, py := 0#16, minDist := 0#16, maxDist := 0#16, minInt := 0#8
    wrap := false, posEn := false }

/-- The block after reset (10_state.md R44, 70_reset_and_hazards.md R290). -/
def Block.reset : Block :=
  { chans := Vector.ofFn Channel.reset
    sp := 0, round := 0#32
    xf := Xform.reset
    outq := []
    ctrl := { en := false, wrapFix := true, posEn := false, diagEn := false }
    minDist := 100#16, maxDist := 2500#16, minInt := 150#8, tmoRounds := 0#16 }

/-- An environment that has offered nothing and seen nothing (log 7). -/
def Env.quiet : Env :=
  { inq := Vector.replicate MAX_NCH [], stim := [], rdata := 0#32, delivered := [], raised := .none }

/-- The machine of a configuration right after reset: the block's reset state in a quiet environment. -/
def State.resetWith (cfg : Config) : State := { cfg := cfg, hw := Block.reset, env := Env.quiet, modelFault := none }

/-- The machine of this hardware right after reset. -/
def State.reset : State := State.resetWith hardware

end Sys2Proof.Machine
end

