-- ==== Sys2Proof/Machine/Filter.lean ====
section
/-!
DEFINITION. The quality filter comparator (43_filter.md): the ACC bit of the XF event word.
-/

namespace Sys2Proof.Machine

/-- ACCEPT(d, i) (43_filter.md R180): unsigned, strict comparisons. -/
def acceptSample (minDist maxDist : Half) (minInt : Byte) (d : Half) (i : Byte) : Bool :=
  decide (minDist < d) && decide (d < maxDist) && decide (minInt < i)

/-- ACC for the sample the transform unit is at: ACCEPT(xd[xk], xi[xk]) against the latched thresholds
(43_filter.md R180, 44_scheduler.md R200). -/
def Xform.acc (x : Xform) : Bool := acceptSample x.minDist x.maxDist x.minInt x.dist[x.k] x.inten[x.k]

end Sys2Proof.Machine
end

