-- ==== Sys2Proof/Machine/Ops.lean ====
section
/-!
DEFINITION. The named operations of 00_scope.md R13 over the state: packet-buffer bytes, channels, input queues, the
output FIFO, the configuration freeze, the return of a channel to SEARCH, and what the block has in place of an
exception: the label `raise` and the counter increment `countUp` (60_exceptions.md R261, R266). There is no trap
entry and no return from one (R270, R271).
-/

namespace Sys2Proof.Machine

/-! ## Packet-buffer bytes -/

/-- MemRead(buf, i, 1) (00_scope.md R13): the byte at index i; an index nothing has written reads 0x00 (log 5). -/
def Memory.read : Memory → Nat → Byte
  | [], _ => 0x00#8
  | (a, v) :: rest, i => if a = i then v else Memory.read rest i

/-- Puts a cell in front of the first cell with a larger index. -/
def Memory.insert (i : Nat) (v : Byte) : Memory → Memory
  | [] => [(i, v)]
  | (a, w) :: rest => if i < a then (i, v) :: (a, w) :: rest else (a, w) :: Memory.insert i v rest

/-- MemWrite(buf, i, 1, v) (00_scope.md R13), keeping the canonical form: the cell of index i is taken out, and put
in again at its place unless v is what an unlisted index reads as. -/
def Memory.write (m : Memory) (i : Nat) (v : Byte) : Memory :=
  let others := m.filter fun cell => cell.1 != i
  if v = 0x00#8 then others else Memory.insert i v others

/-- The canonical form of a buffer of `len` bytes: indices inside it, strictly rising, no cell holding 0x00. -/
abbrev Memory.wf (m : Memory) (len : Nat) : Prop :=
  m.Pairwise (fun x y => x.1 < y.1) ∧ ∀ cell ∈ m, cell.1 < len ∧ cell.2 ≠ 0x00#8

/-- The bytes buf[0..n-1]. -/
def Memory.first (m : Memory) (n : Nat) : List Byte := (List.range n).map fun i => m.read i

/-! ## Channels -/

/-- Channel c's state. -/
def Block.chan (b : Block) (c : Chan) : Channel := b.chans[c]

/-- The block with channel c's state replaced. -/
def Block.setChan (b : Block) (c : Chan) (ch : Channel) : Block := { b with chans := b.chans.set c ch }

/-- Channel c's state. -/
def State.chan (s : State) (c : Chan) : Channel := s.hw.chan c

/-- The machine with channel c's state replaced. -/
def State.setChan (s : State) (c : Chan) (ch : Channel) : State := { s with hw := s.hw.setChan c ch }

/-- The decoder returned to SEARCH: st, cur, crc and age as after reset, the rest of the channel as it is
(41_frame_decoder.md R136, 44_scheduler.md R191, R192, 45_host_bus.md R244). -/
def Channel.toSearch (ch : Channel) : Channel :=
  { ch with st := SEARCH, cur := 0#7, crc := 0x00#8, age := 0#16 }

/-! ## Error events and counting -/

/-- raise (60_exceptions.md R261): the step is labelled with the event; no state of the block changes. -/
def State.raise (s : State) (e : ErrorEvent) : State := { s with env := { s.env with raised := e } }

/-- count (60_exceptions.md R266): the counter's next value, with CTRL.DIAG_EN as it was before the step. -/
def countUp (diagEn : Bool) (n : Word) : Word := if diagEn then n + 1#32 else n

/-- A reserved event word met by the decoder (44_scheduler.md R207): the model fault is recorded, naming the word,
and nothing else changes; a fault already recorded stays. -/
def State.recordFault (s : State) (w : EventWord) : State :=
  { s with modelFault := some (s.modelFault.getD w) }

/-! ## The ports -/

/-- The head byte of inq[c], if one is offered (30_encoding.md R96). -/
def State.headByte (s : State) (c : Chan) : Option Byte := s.env.inq[c].head?

/-- inq[c] without its head byte (41_frame_decoder.md R130). -/
def State.takeByte (s : State) (c : Chan) : State :=
  { s with env := { s.env with inq := s.env.inq.set c s.env.inq[c].tail } }

/-- The environment appends bytes to inq[c] (10_state.md R27, 30_encoding.md R111). -/
def State.offerBytes (s : State) (c : Chan) (bytes : List Byte) : State :=
  { s with env := { s.env with inq := s.env.inq.set c (s.env.inq[c] ++ bytes) } }

/-- A bus read returns a word and changes no state of the block (45_host_bus.md R221). -/
def State.busReturn (s : State) (v : Word) : State := { s with env := { s.env with rdata := v } }

/-- Push(OUTQ, r) (00_scope.md R13): the record enters whole, last (20_memory.md R75, R81). -/
def Block.push (b : Block) (r : Record) : Block := { b with outq := b.outq ++ [r] }

/-! ## Configuration freeze -/

/-- A write of CFG fields: it takes effect only if CTRL.EN = 0 in the state before (10_state.md R30). -/
def State.writeCfg (s : State) (f : Block → Block) : State :=
  if s.hw.ctrl.en then s else { s with hw := f s.hw }

/-! ## The transform unit, the scheduler pointer and the sample index -/

/-- The block with the transform unit's state replaced. -/
def Block.setXf (b : Block) (x : Xform) : Block := { b with xf := x }

/-- (c + 1) mod NCH. -/
def nextChan (nch : Nat) (c : Chan) : Chan := Fin.ofNat MAX_NCH ((c.val + 1) % nch)

/-- The pointer update of every visit (44_scheduler.md R190): the next channel, and one more completed round when
the pointer comes back to channel 0. -/
def Block.advancePointer (b : Block) (nch : Nat) : Block :=
  let sp' := nextChan nch b.sp
  { b with sp := sp', round := if sp'.val = 0 then b.round + 1#32 else b.round }

/-- The sample advance of every XF step (44_scheduler.md R202). -/
def Xform.advance (x : Xform) : Xform :=
  if h : x.k.val + 1 < NSAMP then { x with k := ⟨x.k.val + 1, h⟩ } else { x with busy := false, k := 0 }

end Sys2Proof.Machine
end

