-- ==== Sys2Proof/Machine/Operands.lean ====
section
/-!
DEFINITION. The operand forms: the little-endian wire fields (30_encoding.md R90, R97), when a step of each agent
exists and which word the state forms for it (30_encoding.md R103 to R106, 41_frame_decoder.md R130,
44_scheduler.md R190, R200, R205), and the match of a row's fields with that word.
-/

namespace Sys2Proof.Machine

/-! ## Wire fields -/

/-- The two-byte wire field at offset o, little-endian (20_memory.md R70, 30_encoding.md R97). -/
def Memory.wire16 (m : Memory) (o : Nat) : Half := m.read (o + 1) ++ m.read o

/-- START_ANGLE (30_encoding.md R90, 42_geometry.md R150). -/
def Memory.startAngle (m : Memory) : Half := m.wire16 4

/-- END_ANGLE (30_encoding.md R90, 42_geometry.md R150). -/
def Memory.endAngle (m : Memory) : Half := m.wire16 42

/-- DIST_k for k = 0..11 (30_encoding.md R90, 42_geometry.md R150). -/
def Memory.distances (m : Memory) : Vector Half NSAMP := Vector.ofFn fun k => m.wire16 (6 + 3 * k.val)

/-- INT_k for k = 0..11 (30_encoding.md R90, 42_geometry.md R150). -/
def Memory.intensities (m : Memory) : Vector Byte NSAMP := Vector.ofFn fun k => m.read (8 + 3 * k.val)

/-! ## RX -/

/-- LAST: the byte to be taken is the packet's last (30_encoding.md R103). -/
def Channel.atLast (ch : Channel) (pktLen : Nat) : Bool := decide (ch.cur.toNat = pktLen - 1)

/-- Whether channel c has an RX step: it is one of the NCH channels, CTRL.EN = 1, a byte is offered, and the port is ready
(00_scope.md R9, 41_frame_decoder.md R130, 30_encoding.md R96). -/
def State.rxExists (s : State) (c : Chan) : Bool :=
  decide (c.val < s.cfg.nch) && s.hw.ctrl.en && !s.env.inq[c].isEmpty && (!(s.chan c).chEn || (s.chan c).st != READY)

/-- The event word of an RX step of channel c taking byte b (30_encoding.md R103). -/
def State.rxWordFor (s : State) (c : Chan) (b : Byte) : EventWord :=
  rxWord (s.chan c).chEn (s.chan c).st ((s.chan c).atLast s.cfg.pktLen) (b == (s.chan c).crc) b

/-- Whether the state has an RX step of channel c that takes byte b with these fields of its event word
(30_encoding.md R103). -/
def State.rxForms (s : State) (c : Chan) (chen : Bool) (st : BitVec 2) (last crcm : Bool) (b : Byte) : Bool :=
  s.rxExists c && s.headByte c == some b
    && (s.chan c).chEn == chen && (s.chan c).st == st && (s.chan c).atLast s.cfg.pktLen == last
    && (b == (s.chan c).crc) == crcm

/-! ## VISIT -/

/-- Whether a VISIT step exists: CTRL.EN = 1 and xbusy = 0 (44_scheduler.md R190). -/
def State.visitExists (s : State) : Bool := s.hw.ctrl.en && !s.hw.xf.busy

/-- The event word of a VISIT step (30_encoding.md R104). -/
def State.visitWordFor (s : State) : EventWord :=
  visitWord (s.chan s.hw.sp).chEn (s.chan s.hw.sp).st 0#10

/-- Whether the state has a VISIT step with these fields of its event word (30_encoding.md R104). -/
def State.visitForms (s : State) (chen : Bool) (st : BitVec 2) : Bool :=
  s.visitExists && (s.chan s.hw.sp).chEn == chen && (s.chan s.hw.sp).st == st

/-! ## XF and POP -/

/-- Whether an XF step exists: xbusy = 1 and, when the sample is accepted, room in OUTQ (44_scheduler.md R200,
R201). -/
def State.xfExists (s : State) : Bool :=
  s.hw.xf.busy && (!s.hw.xf.acc || decide (s.hw.outq.length < s.cfg.outDepth))

/-- Whether the state has an XF step with this ACC bit (30_encoding.md R105). -/
def State.xfForms (s : State) (acc : Bool) : Bool := s.xfExists && s.hw.xf.acc == acc

end Sys2Proof.Machine
end

