-- ==== Sys2Proof/Machine/Flags.lean ====
section
/-!
DEFINITION. The block has no condition codes; its only flags are the STATUS bits and the fields of CH_STAT, each a
view of other state (10_state.md R39, R41, R43). With them stand the register words of the other reads, field by
field from 10_state.md R31 to R42.
-/

namespace Sys2Proof.Machine

/-- OUT_FULL: |OUTQ| = OUT_DEPTH (10_state.md R39). -/
def Block.outFull (b : Block) (outDepth : Nat) : Bool := decide (b.outq.length = outDepth)

/-- OUT_EMPTY: |OUTQ| = 0 (10_state.md R39). -/
def Block.outEmpty (b : Block) : Bool := decide (b.outq.length = 0)

/-- STATUS (10_state.md R39, 45_host_bus.md R224): XF_CH, XF_K, SP, OUT_COUNT, OUT_EMPTY, OUT_FULL, XF_BUSY
(log 13). -/
def Block.statusWord (b : Block) (outDepth : Nat) : Word :=
  0#5 ++ (if b.xf.busy then BitVec.ofNat 3 b.xf.ch.val else 0#3)
    ++ (if b.xf.busy then BitVec.ofNat 4 b.xf.k.val else 0#4)
    ++ 0#1 ++ BitVec.ofNat 3 b.sp.val
    ++ BitVec.ofNat 8 b.outq.length
    ++ 0#5 ++ BitVec.ofBool b.outEmpty ++ BitVec.ofBool (b.outFull outDepth) ++ BitVec.ofBool b.xf.busy

/-- ID (10_state.md R31): hard-wired, the tag 0x544C, NCH and PKT_LEN. -/
def idWord (cfg : Config) : Word := 0x544C#16 ++ BitVec.ofNat 8 cfg.nch ++ BitVec.ofNat 8 cfg.pktLen

/-- CTRL (10_state.md R32). -/
def Ctrl.word (r : Ctrl) : Word :=
  0#28 ++ BitVec.ofBool r.diagEn ++ BitVec.ofBool r.posEn ++ BitVec.ofBool r.wrapFix ++ BitVec.ofBool r.en

/-- FILT_DIST (10_state.md R33). -/
def Block.filtDistWord (b : Block) : Word := b.maxDist ++ b.minDist

/-- FILT_INT (10_state.md R34). -/
def Block.filtIntWord (b : Block) : Word := 0#24 ++ b.minInt

/-- TIMEOUT (10_state.md R35). -/
def Block.timeoutWord (b : Block) : Word := 0#16 ++ b.tmoRounds

/-- CH_CFG (10_state.md R36). -/
def Channel.cfgWord (ch : Channel) : Word := 0#23 ++ BitVec.ofBool ch.chEn ++ ch.devId

/-- CH_ANG (10_state.md R37). -/
def Channel.angWord (ch : Channel) : Word := 0#16 ++ ch.angOff

/-- CH_POS (10_state.md R38). -/
def Channel.posWord (ch : Channel) : Word := ch.posY ++ ch.posX

/-- CH_STAT (10_state.md R41, 45_host_bus.md R232): AGE, CURSOR, STATE. -/
def Channel.statWord (ch : Channel) : Word := ch.age ++ 0#1 ++ ch.cur ++ 0#6 ++ ch.st

end Sys2Proof.Machine
end

