-- ==== Sys2Proof/Machine/BusRead.lean ====
section
/-!
DEFINITION. The BUS read rows (45_host_bus.md R222 to R236, R252). A BUS step exists at every moment (R220); a read
returns a word and changes no state of the block (R221).
-/

namespace Sys2Proof.Machine

/-- RD_ID (R222): the parameters, hard-wired. -/
def execRdId (s : State) : Host.Outcome State Fault Refusal := .next (s.busReturn (idWord s.cfg))

/-- RD_CTRL (R223): the control register. -/
def execRdCtrl (s : State) : Host.Outcome State Fault Refusal := .next (s.busReturn s.hw.ctrl.word)

/-- RD_STATUS (R224): the status view, read in one atomic step. -/
def execRdStatus (s : State) : Host.Outcome State Fault Refusal := .next (s.busReturn (s.hw.statusWord s.cfg.outDepth))

/-- RD_ROUND (R225): the round counter. -/
def execRdRound (s : State) : Host.Outcome State Fault Refusal := .next (s.busReturn s.hw.round)

/-- RD_FILT_DIST (R226): the distance thresholds. -/
def execRdFiltDist (s : State) : Host.Outcome State Fault Refusal := .next (s.busReturn s.hw.filtDistWord)

/-- RD_FILT_INT (R227): the intensity threshold. -/
def execRdFiltInt (s : State) : Host.Outcome State Fault Refusal := .next (s.busReturn s.hw.filtIntWord)

/-- RD_TIMEOUT (R228): the partial-packet timeout. -/
def execRdTimeout (s : State) : Host.Outcome State Fault Refusal := .next (s.busReturn s.hw.timeoutWord)

/-- RD_CH_CFG (R229): the channel's device id and enable. -/
def execRdChCfg (c : Chan) (s : State) : Host.Outcome State Fault Refusal := .next (s.busReturn (s.chan c).cfgWord)

/-- RD_CH_ANG (R230): the channel's angular offset. -/
def execRdChAng (c : Chan) (s : State) : Host.Outcome State Fault Refusal := .next (s.busReturn (s.chan c).angWord)

/-- RD_CH_POS (R231): the channel's position offset. -/
def execRdChPos (c : Chan) (s : State) : Host.Outcome State Fault Refusal := .next (s.busReturn (s.chan c).posWord)

/-- RD_CH_STAT (R232): the channel's decoder state. -/
def execRdChStat (c : Chan) (s : State) : Host.Outcome State Fault Refusal := .next (s.busReturn (s.chan c).statWord)

/-- RD_CNT_OK (R233): the valid-packet counter. -/
def execRdCntOk (c : Chan) (s : State) : Host.Outcome State Fault Refusal := .next (s.busReturn (s.chan c).cntOk)

/-- RD_CNT_CRC (R234): the ChecksumError counter. -/
def execRdCntCrc (c : Chan) (s : State) : Host.Outcome State Fault Refusal := .next (s.busReturn (s.chan c).cntCrc)

/-- RD_CNT_TMO (R235): the timeout counter. -/
def execRdCntTmo (c : Chan) (s : State) : Host.Outcome State Fault Refusal := .next (s.busReturn (s.chan c).cntTmo)

/-- RD_CNT_REJ (R236): the RangeRejection counter. -/
def execRdCntRej (c : Chan) (s : State) : Host.Outcome State Fault Refusal := .next (s.busReturn (s.chan c).cntRej)

/-- RD_UNMAPPED (R252): a misaligned or unmapped address returns 0x0000_0000. -/
def execRdUnmapped (_a : Addr) (s : State) : Host.Outcome State Fault Refusal := .next (s.busReturn 0#32)

end Sys2Proof.Machine
end

