-- ==== Sys2Proof/Machine/BusWrite.lean ====
section
/-!
DEFINITION. The BUS write rows (45_host_bus.md R237 to R251, R253). A BUS step exists at every moment (R220). Bits of D
on reserved or read-only bits are ignored; a CFG field is written only if CTRL.EN = 0 before the step (R221).
-/

namespace Sys2Proof.Machine

/-- WR_ID (R237): read-only, no state changes. -/
def execWrId (_d : Word) (s : State) : Host.Outcome State Fault Refusal := .next s

/-- WR_CTRL (R238): EN and DIAG_EN always; the CFG bits WRAP_FIX and POS_EN only while EN was 0. -/
def execWrCtrl (d : Word) (s : State) : Host.Outcome State Fault Refusal :=
  let old := s.hw.ctrl
  .next { s with hw := { s.hw with ctrl :=
    { en := d.getLsbD 0
      wrapFix := if old.en then old.wrapFix else d.getLsbD 1
      posEn := if old.en then old.posEn else d.getLsbD 2
      diagEn := d.getLsbD 3 } } }

/-- WR_STATUS (R239): read-only, no state changes. -/
def execWrStatus (_d : Word) (s : State) : Host.Outcome State Fault Refusal := .next s

/-- WR_ROUND (R240): read-only, no state changes. -/
def execWrRound (_d : Word) (s : State) : Host.Outcome State Fault Refusal := .next s

/-- WR_FILT_DIST (R241): the distance thresholds, CFG. -/
def execWrFiltDist (d : Word) (s : State) : Host.Outcome State Fault Refusal :=
  .next (s.writeCfg fun b => { b with minDist := d.extractLsb' 0 16, maxDist := d.extractLsb' 16 16 })

/-- WR_FILT_INT (R242): the intensity threshold, CFG. -/
def execWrFiltInt (d : Word) (s : State) : Host.Outcome State Fault Refusal :=
  .next (s.writeCfg fun b => { b with minInt := d.extractLsb' 0 8 })

/-- WR_TIMEOUT (R243): the partial-packet timeout, CFG. -/
def execWrTimeout (d : Word) (s : State) : Host.Outcome State Fault Refusal :=
  .next (s.writeCfg fun b => { b with tmoRounds := d.extractLsb' 0 16 })

/-- WR_CH_CFG (R244): device id and enable, CFG; clearing CH_EN also returns the decoder to SEARCH. -/
def execWrChCfg (c : Chan) (d : Word) (s : State) : Host.Outcome State Fault Refusal :=
  .next (s.writeCfg fun b =>
    let ch := b.chan c
    let enable := d.getLsbD 8
    let ch := if ch.chEn && !enable then ch.toSearch else ch
    b.setChan c { ch with devId := d.extractLsb' 0 8, chEn := enable })

/-- WR_CH_ANG (R245): the angular offset, CFG. -/
def execWrChAng (c : Chan) (d : Word) (s : State) : Host.Outcome State Fault Refusal :=
  .next (s.writeCfg fun b => b.setChan c { b.chan c with angOff := d.extractLsb' 0 16 })

/-- WR_CH_POS (R246): the position offset, CFG. -/
def execWrChPos (c : Chan) (d : Word) (s : State) : Host.Outcome State Fault Refusal :=
  .next (s.writeCfg fun b =>
    b.setChan c { b.chan c with posX := d.extractLsb' 0 16, posY := d.extractLsb' 16 16 })

/-- WR_CH_STAT (R247): read-only, no state changes. -/
def execWrChStat (_c : Chan) (_d : Word) (s : State) : Host.Outcome State Fault Refusal := .next s

/-- WR_CNT_OK (R248): at any time, not CFG. -/
def execWrCntOk (c : Chan) (d : Word) (s : State) : Host.Outcome State Fault Refusal :=
  .next (s.setChan c { s.chan c with cntOk := d })

/-- WR_CNT_CRC (R249): at any time, not CFG. -/
def execWrCntCrc (c : Chan) (d : Word) (s : State) : Host.Outcome State Fault Refusal :=
  .next (s.setChan c { s.chan c with cntCrc := d })

/-- WR_CNT_TMO (R250): at any time, not CFG. -/
def execWrCntTmo (c : Chan) (d : Word) (s : State) : Host.Outcome State Fault Refusal :=
  .next (s.setChan c { s.chan c with cntTmo := d })

/-- WR_CNT_REJ (R251): at any time, not CFG. -/
def execWrCntRej (c : Chan) (d : Word) (s : State) : Host.Outcome State Fault Refusal :=
  .next (s.setChan c { s.chan c with cntRej := d })

/-- WR_UNMAPPED (R253): no state changes, no error. -/
def execWrUnmapped (_a : Addr) (_d : Word) (s : State) : Host.Outcome State Fault Refusal := .next s

end Sys2Proof.Machine
end

