-- ==== Sys2Proof/Machine/Output.lean ====
section
/-!
DEFINITION. The rows POP (44_scheduler.md R205), RESET (70_reset_and_hazards.md R290) and EV_RESERVED (44_scheduler.md
R207).
-/

namespace Sys2Proof.Machine

/-- OUT_POP (R205): the head of OUTQ is delivered whole to the consumer; with OUTQ empty there is no step (log 2). -/
def execOutPop (s : State) : Host.Outcome State Fault Refusal :=
  match s.hw.outq with
  | [] => .next s
  | r :: rest =>
    .next { s with hw := { s.hw with outq := rest }, env := { s.env with delivered := s.env.delivered ++ [r] } }

/-- RESET (R290): every piece of block state takes its reset value, CFG fields included; the environment's queues and
a recorded model fault are no state of the block and stay. -/
def execReset (s : State) : Host.Outcome State Fault Refusal := .next { s with hw := Block.reset }

/-- EV_RESERVED (R207): the model fault is recorded, no hardware effect. -/
def execEvReserved (low : BitVec 14) (s : State) : Host.Outcome State Fault Refusal := .next (s.recordFault (reservedWord low))

end Sys2Proof.Machine
end

