-- ==== Sys2Proof/Machine/Rx.lean ====
section
/-!
DEFINITION. The RX rows (41_frame_decoder.md R131 to R138). An RX step removes the head byte of inq[c] and applies its
row (R130); where the state forms no such step, there is none and nothing changes (log 2).
-/

namespace Sys2Proof.Machine

/-- RX_MARKER (R131): start of a packet. -/
def execRxMarker (c : Chan) (last crcm : Bool) (s : State) : Host.Outcome State Fault Refusal :=
  if s.rxForms c true SEARCH last crcm s.cfg.marker then
    .next ((s.takeByte c).setChan c
      { s.chan c with
        buf := (s.chan c).buf.write 0 s.cfg.marker
        crc := crcStep s.cfg.crc 0x00#8 s.cfg.marker
        cur := 1#7
        age := 0#16
        st := ACCUM })
  else .next s

/-- RX_DATA (R132): a byte inside a packet. -/
def execRxData (c : Chan) (crcm : Bool) (b : Byte) (s : State) : Host.Outcome State Fault Refusal :=
  if s.rxForms c true ACCUM false crcm b then
    let ch := s.chan c
    if ch.cur.toNat < s.cfg.pktLen then
      .next ((s.takeByte c).setChan c
        { ch with
          buf := ch.buf.write ch.cur.toNat b
          crc := crcStep s.cfg.crc ch.crc b
          cur := ch.cur + 1#7 })
    else .fault (.bufferAddress c ch.cur.toNat)
  else .next s

/-- RX_CHECK_OK (R133): the checksum byte, matching. -/
def execRxCheckOk (c : Chan) (b : Byte) (s : State) : Host.Outcome State Fault Refusal :=
  if s.rxForms c true ACCUM true true b then
    .next ((s.takeByte c).setChan c
      { s.chan c with
        buf := (s.chan c).buf.write (s.cfg.pktLen - 1) b
        cur := BitVec.ofNat 7 s.cfg.pktLen
        st := READY
        cntOk := countUp s.hw.ctrl.diagEn (s.chan c).cntOk })
  else .next s

/-- RX_DRAIN (R134): a byte of a disabled channel is discarded. -/
def execRxDrain (c : Chan) (st : BitVec 2) (last crcm : Bool) (b : Byte) (s : State) : Host.Outcome State Fault Refusal :=
  if s.rxForms c false st last crcm b then .next (s.takeByte c) else .next s

/-- RX_CHECK_BAD (R136): the checksum byte, not matching: ChecksumError, and the packet is discarded. -/
def execRxCheckBad (c : Chan) (b : Byte) (s : State) : Host.Outcome State Fault Refusal :=
  if s.rxForms c true ACCUM true false b then
    .next (((s.takeByte c).raise (.checksumError c)).setChan c
      { (s.chan c).toSearch with cntCrc := countUp s.hw.ctrl.diagEn (s.chan c).cntCrc })
  else .next s

/-- RX_SKIP (R137): a non-marker byte while searching is discarded. -/
def execRxSkip (c : Chan) (last crcm : Bool) (b : Byte) (s : State) : Host.Outcome State Fault Refusal :=
  if s.rxForms c true SEARCH last crcm b then .next (s.takeByte c) else .next s

/-- RX_RESERVED (R138, 44_scheduler.md R207): the model fault is recorded, no hardware effect. -/
def execRxReserved (_c : Chan) (st : BitVec 2) (last crcm : Bool) (b : Byte) (s : State) : Host.Outcome State Fault Refusal :=
  .next (s.recordFault (rxWord true st last crcm b))

end Sys2Proof.Machine
end

