-- ==== Sys2Proof/Machine/Geometry.lean ====
section
/-!
DEFINITION. The angle interpolator and the polar-to-Cartesian transform (42_geometry.md), bit-exact, on mathematical
integers (00_scope.md R12): ENDADJ, INTERP, OFFSET, PHASE, ROTATE, TRIG, CART, POSADD, RECORD and POINT. The functions
that read the sine ROM take it as an argument (R163).
-/

namespace Sys2Proof.Machine

/-- ENDADJ, the wrap-around fix (R154, R155). -/
def endAdj (xs xe : Half) (wrap : Bool) : Nat :=
  if wrap && decide (xe < xs) then xe.toNat + 36000 else xe.toNat

/-- INTERP, 11 times the interpolated angle in centidegrees, exactly (R156). -/
def interp (k : SampleIx) (xs : Half) (e : Nat) : Nat := (11 - k.val) * xs.toNat + k.val * e

/-- OFFSET: INTERP with the mounting offset added (R157). -/
def offsetAngle (interpolated : Nat) (xoff : Half) : Nat := interpolated + 11 * xoff.toNat

/-- PHASE: the one rounding of the angle, to BAM16, halves upwards (R158). -/
def phase (tot : Nat) : Half := BitVec.ofNat 16 ((4096 * tot + 12375) / 24750)

/-- ROTATE, the fixed -90 degree rotation (R159). -/
def rotate (p : Half) : Half := p - 0x4000#16

/-- A sine and cosine in Q2.14 (00_scope.md R15). -/
structure SinCos where
  cos : Int
  sin : Int
  deriving DecidableEq, Repr

/-- TRIG, sine and cosine of a BAM16 angle from the quarter-wave ROM (R160). -/
def trig (rom : Nat → Nat) (p : Half) : SinCos :=
  let j := (p.extractLsb' 0 14).toNat
  match (p.extractLsb' 14 2).toNat with
  | 0 => { sin := rom j, cos := rom (16384 - j) }
  | 1 => { sin := rom (16384 - j), cos := -(rom j : Int) }
  | 2 => { sin := -(rom j : Int), cos := -(rom (16384 - j) : Int) }
  | _ => { sin := -(rom (16384 - j) : Int), cos := rom j }

/-- The rounding of a Q2.14 product to whole millimetres, halves towards +infinity (R165). -/
def roundQ14 (p : Int) : Int := (p + 8192) / 16384

/-- CART, X0: -(COS * d), rounded (R165). -/
def cartX (t : SinCos) (d : Half) : Int := roundQ14 (-(t.cos * d.toNat))

/-- CART, Y0: SIN * d, rounded (R165). -/
def cartY (t : SinCos) (d : Half) : Int := roundQ14 (t.sin * d.toNat)

/-- POSADD, the position-offset toggle, for one coordinate (R168). -/
def posAdd (enabled : Bool) (v : Int) (offset : Half) : Int := if enabled then v + offset.toInt else v

/-- TOT(k) of the dispatched packet (R154, R156, R157). -/
def Xform.totalAngle (x : Xform) (k : SampleIx) : Nat :=
  offsetAngle (interp k x.startAng (endAdj x.startAng x.endAng x.wrap)) x.off

/-- RECORD: the four words of the point record of sample k (30_encoding.md R100, R169). -/
def Xform.record (x : Xform) (k : SampleIx) (ph : Half) (px py : Int) : Record :=
  { w0 := x.dist[k] ++ x.inten[k] ++ x.dev
    w1 := 0#9 ++ BitVec.ofNat 3 x.ch.val ++ BitVec.ofNat 4 k.val ++ ph
    w2 := BitVec.ofInt 32 px
    w3 := BitVec.ofInt 32 py }

/-- POINT(k): the whole per-sample function (R172). -/
def Xform.point (rom : Nat → Nat) (x : Xform) (k : SampleIx) : Record :=
  let ph := phase (x.totalAngle k)
  let t := trig rom (rotate ph)
  x.record k ph (posAdd x.posEn (cartX t x.dist[k]) x.px) (posAdd x.posEn (cartY t x.dist[k]) x.py)

end Sys2Proof.Machine
end

