-- ==== Sys2Proof/Machine/Transform.lean ====
section
/-!
DEFINITION. The XF rows (44_scheduler.md R203, R204). Both end with the sample advance of R202; where the state forms no
such step, there is none and nothing changes, a full OUTQ holding an accepted sample among these cases (R201, log 2).
-/

namespace Sys2Proof.Machine

/-- XF_ACCEPT (R203): the point of sample xk is pushed into OUTQ. -/
def execXfAccept (s : State) : Host.Outcome State Fault Refusal :=
  if s.xfForms true then
    .next { s with hw := (s.hw.push (s.hw.xf.point s.cfg.sine s.hw.xf.k)).setXf s.hw.xf.advance }
  else .next s

/-- XF_REJECT (R204): RangeRejection, the sample is dropped and counted for the packet's channel. -/
def execXfReject (s : State) : Host.Outcome State Fault Refusal :=
  if s.xfForms false then
    let c := s.hw.xf.ch
    let s' := s.raise (.rangeRejection c s.hw.xf.k)
    let ch := s.chan c
    .next { s' with hw :=
      (s.hw.setChan c { ch with cntRej := countUp s.hw.ctrl.diagEn ch.cntRej }).setXf s.hw.xf.advance }
  else .next s

end Sys2Proof.Machine
end

