-- ==== Sys2Proof/Machine/Visit.lean ====
section
/-!
DEFINITION. The VISIT rows (44_scheduler.md R191 to R195). Every visit ends with the pointer update of R190; where the
state forms no such visit, there is none and nothing changes (log 2).
-/

namespace Sys2Proof.Machine

/-- The latches a dispatch of channel c loads (44_scheduler.md R191, 42_geometry.md R150, 10_state.md R25). -/
def Block.latch (b : Block) (c : Chan) : Xform :=
  let ch := b.chan c
  { busy := true
    k := 0
    ch := c
    dev := ch.devId
    startAng := ch.buf.startAngle
    endAng := ch.buf.endAngle
    dist := ch.buf.distances
    inten := ch.buf.intensities
    off := ch.angOff
    px := ch.posX
    py := ch.posY
    minDist := b.minDist
    maxDist := b.maxDist
    minInt := b.minInt
    wrap := b.ctrl.wrapFix
    posEn := b.ctrl.posEn }

/-- The age after one more visit, saturating at 0xFFFF (R192). -/
def nextAge (age : Half) : Half := if age = 0xFFFF#16 then 0xFFFF#16 else age + 1#16

/-- Whether an age has reached the timeout: TMO_ROUNDS = 0 disables it (R192, 10_state.md R35). -/
def timedOut (tmoRounds age : Half) : Bool := tmoRounds != 0#16 && decide (tmoRounds ≤ age)

/-- VISIT_DISPATCH (R191): the READY packet goes to the transform unit and its channel returns to SEARCH. -/
def execVisitDispatch (s : State) : Host.Outcome State Fault Refusal :=
  if s.visitForms true READY then
    let c := s.hw.sp
    .next { s with hw := ((s.hw.setChan c (s.chan c).toSearch).setXf (s.hw.latch c)).advancePointer s.cfg.nch }
  else .next s

/-- VISIT_AGE (R192): a partial packet ages, and is dropped with TimeoutError when its age reaches TMO_ROUNDS. -/
def execVisitAge (s : State) : Host.Outcome State Fault Refusal :=
  if s.visitForms true ACCUM then
    let c := s.hw.sp
    let ch := s.chan c
    let a := nextAge ch.age
    if timedOut s.hw.tmoRounds a then
      let s' := s.raise (.timeoutError c)
      .next { s' with hw :=
        (s.hw.setChan c { ch.toSearch with cntTmo := countUp s.hw.ctrl.diagEn ch.cntTmo }).advancePointer s.cfg.nch }
    else .next { s with hw := (s.hw.setChan c { ch with age := a }).advancePointer s.cfg.nch }
  else .next s

/-- VISIT_IDLE (R193): a searching channel; only the pointer update. -/
def execVisitIdle (s : State) : Host.Outcome State Fault Refusal :=
  if s.visitForms true SEARCH then .next { s with hw := s.hw.advancePointer s.cfg.nch } else .next s

/-- VISIT_OFF (R194): a disabled channel keeps its place in the round; only the pointer update. -/
def execVisitOff (st : BitVec 2) (s : State) : Host.Outcome State Fault Refusal :=
  if s.visitForms false st then .next { s with hw := s.hw.advancePointer s.cfg.nch } else .next s

/-- VISIT_RESERVED (R195, R207): the model fault is recorded, no hardware effect. -/
def execVisitReserved (low : BitVec 10) (s : State) : Host.Outcome State Fault Refusal :=
  .next (s.recordFault (visitWord true 3#2 low))

end Sys2Proof.Machine
end

