-- ==== Sys2Proof/Machine/Dispatch.lean ====
section
/-!
DEFINITION. One arm per row of spec/opcode_table.json, each one direct call of the row's meaning.
-/

namespace Sys2Proof.Machine

def exec (i : Instr) (s : State) : Host.Outcome State Fault Refusal :=
  match i with
  | .rdId => Sys2Proof.Machine.execRdId s
  | .rdCtrl => Sys2Proof.Machine.execRdCtrl s
  | .rdStatus => Sys2Proof.Machine.execRdStatus s
  | .rdRound => Sys2Proof.Machine.execRdRound s
  | .rdFiltDist => Sys2Proof.Machine.execRdFiltDist s
  | .rdFiltInt => Sys2Proof.Machine.execRdFiltInt s
  | .rdTimeout => Sys2Proof.Machine.execRdTimeout s
  | .rdChCfg c => Sys2Proof.Machine.execRdChCfg c s
  | .rdChAng c => Sys2Proof.Machine.execRdChAng c s
  | .rdChPos c => Sys2Proof.Machine.execRdChPos c s
  | .rdChStat c => Sys2Proof.Machine.execRdChStat c s
  | .rdCntOk c => Sys2Proof.Machine.execRdCntOk c s
  | .rdCntCrc c => Sys2Proof.Machine.execRdCntCrc c s
  | .rdCntTmo c => Sys2Proof.Machine.execRdCntTmo c s
  | .rdCntRej c => Sys2Proof.Machine.execRdCntRej c s
  | .rdUnmapped a => Sys2Proof.Machine.execRdUnmapped a s
  | .wrId d => Sys2Proof.Machine.execWrId d s
  | .wrCtrl d => Sys2Proof.Machine.execWrCtrl d s
  | .wrStatus d => Sys2Proof.Machine.execWrStatus d s
  | .wrRound d => Sys2Proof.Machine.execWrRound d s
  | .wrFiltDist d => Sys2Proof.Machine.execWrFiltDist d s
  | .wrFiltInt d => Sys2Proof.Machine.execWrFiltInt d s
  | .wrTimeout d => Sys2Proof.Machine.execWrTimeout d s
  | .wrChCfg c d => Sys2Proof.Machine.execWrChCfg c d s
  | .wrChAng c d => Sys2Proof.Machine.execWrChAng c d s
  | .wrChPos c d => Sys2Proof.Machine.execWrChPos c d s
  | .wrChStat c d => Sys2Proof.Machine.execWrChStat c d s
  | .wrCntOk c d => Sys2Proof.Machine.execWrCntOk c d s
  | .wrCntCrc c d => Sys2Proof.Machine.execWrCntCrc c d s
  | .wrCntTmo c d => Sys2Proof.Machine.execWrCntTmo c d s
  | .wrCntRej c d => Sys2Proof.Machine.execWrCntRej c d s
  | .wrUnmapped a d => Sys2Proof.Machine.execWrUnmapped a d s
  | .rxDrain c st last crcm b => Sys2Proof.Machine.execRxDrain c st last crcm b s
  | .rxMarker c last crcm => Sys2Proof.Machine.execRxMarker c last crcm s
  | .rxSkip c last crcm b => Sys2Proof.Machine.execRxSkip c last crcm b s
  | .rxData c crcm b => Sys2Proof.Machine.execRxData c crcm b s
  | .rxCheckOk c b => Sys2Proof.Machine.execRxCheckOk c b s
  | .rxCheckBad c b => Sys2Proof.Machine.execRxCheckBad c b s
  | .rxReserved c st last crcm b => Sys2Proof.Machine.execRxReserved c st last crcm b s
  | .visitOff st => Sys2Proof.Machine.execVisitOff st s
  | .visitIdle => Sys2Proof.Machine.execVisitIdle s
  | .visitAge => Sys2Proof.Machine.execVisitAge s
  | .visitDispatch => Sys2Proof.Machine.execVisitDispatch s
  | .visitReserved low => Sys2Proof.Machine.execVisitReserved low s
  | .xfReject => Sys2Proof.Machine.execXfReject s
  | .xfAccept => Sys2Proof.Machine.execXfAccept s
  | .outPop => Sys2Proof.Machine.execOutPop s
  | .reset => Sys2Proof.Machine.execReset s
  | .evReserved low => Sys2Proof.Machine.execEvReserved low s

end Sys2Proof.Machine
end

