-- ==== Sys2Proof/Machine/Fetch.lean ====
section
/-!
DEFINITION. Where the next event comes from. The block fetches no instruction (10_state.md R21, R45): the head of the
stimulus list says whose turn it is, and the event word of that agent's step is formed from its inputs and the state
(30_encoding.md R101 to R107). An agent whose step does not exist has no event (log 2).
-/

namespace Sys2Proof.Machine

/-- The event the agent whose turn it is takes now, if its step exists. -/
def State.nextEvent (s : State) : Option Event :=
  match s.env.stim with
  | .rd a :: _ => some { word := busWord false a, chan := 0, data := 0#32 }
  | .wr a d :: _ => some { word := busWord true a, chan := 0, data := d }
  | .take c :: _ =>
    if s.rxExists c then (s.headByte c).map fun b => { word := s.rxWordFor c b, chan := c, data := 0#32 }
    else none
  | .visit :: _ =>
    if s.visitExists then some { word := s.visitWordFor, chan := 0, data := 0#32 } else none
  | .xf :: _ =>
    if s.xfExists then some { word := xfWord s.hw.xf.acc, chan := 0, data := 0#32 } else none
  | .pop :: _ =>
    if s.hw.outq.isEmpty then none else some { word := popWord, chan := 0, data := 0#32 }
  | .reset :: _ => some { word := resetWord, chan := 0, data := 0#32 }
  | .word e :: _ => some e
  | .rx _ _ :: _ => none
  | [] => none

/-- The instruction the next event selects, if there is one. -/
def State.nextInstr (s : State) : Option Instr := s.nextEvent.map (decode s.cfg)

/-- The turn is used up: the stimulus list moves on, and the trace label of the step before is cleared. -/
def State.endTurn (s : State) : State :=
  { s with env := { s.env with stim := s.env.stim.tail, raised := .none } }

/-- A turn in which the block takes no step: the environment may append bytes (30_encoding.md R111, RX); otherwise
nothing happens. -/
def State.noStep (s : State) : State :=
  match s.env.stim with
  | .rx c bytes :: _ => s.endTurn.offerBytes c bytes
  | _ => s.endTurn

/-! ## Placing an event

`State.place` arranges the state so that the step of an instruction exists and forms the instruction's word
(log 4). -/

/-- The channel's decoder with the fields of an RX word: CHEN, ST, LAST and CRCM for the byte b. -/
def Channel.withRx (ch : Channel) (pktLen : Nat) (chen : Bool) (st : BitVec 2) (last crcm : Bool) (b : Byte) : Channel :=
  { ch with
    chEn := chen
    st := st
    cur := if last then BitVec.ofNat 7 (pktLen - 1) else if st = ACCUM then 1#7 else 0#7
    crc := if crcm then b else b + 1#8 }

/-- The state in which the decoder of channel c takes byte b with these fields of its word. -/
def State.placeRx (s : State) (c : Chan) (chen : Bool) (st : BitVec 2) (last crcm : Bool) (b : Byte) : State :=
  { s with
    hw := { s.hw.setChan c ((s.chan c).withRx s.cfg.pktLen chen st last crcm b) with ctrl := { s.hw.ctrl with en := true } }
    env := { s.env with inq := s.env.inq.set c (b :: s.env.inq[c]) } }

/-- The state in which the scheduler visits channel sp with these fields of its word. -/
def State.placeVisit (s : State) (chen : Bool) (st : BitVec 2) : State :=
  let c := s.hw.sp
  { s with hw :=
    { s.hw.setChan c { s.chan c with chEn := chen, st := st } with
      ctrl := { s.hw.ctrl with en := true }
      xf := { s.hw.xf with busy := false } } }

/-- The state in which the transform unit is at a sample that the filter accepts or rejects, with room in OUTQ. -/
def State.placeXf (s : State) (acc : Bool) : State :=
  { s with hw :=
    { s.hw with
      outq := s.hw.outq.take (s.cfg.outDepth - 1)
      xf :=
        { s.hw.xf with
          busy := true
          minDist := 0#16
          maxDist := 0xFFFF#16
          minInt := 0#8
          dist := s.hw.xf.dist.set s.hw.xf.k (if acc then 1#16 else 0#16)
          inten := s.hw.xf.inten.set s.hw.xf.k 1#8 } } }

/-- The state in which OUTQ has a record to deliver. -/
def State.placePop (s : State) : State :=
  if s.hw.outq.isEmpty then
    { s with hw := { s.hw with outq := [{ w0 := 0#32, w1 := 0#32, w2 := 0#32, w3 := 0#32 }] } }
  else s

/-- The state arranged for an instruction: all that its step's existence and its word need, and nothing else. -/
def State.place (s : State) (i : Instr) : State :=
  match i with
  | .rxDrain c st last crcm b => s.placeRx c false st last crcm b
  | .rxMarker c last crcm => s.placeRx c true SEARCH last crcm s.cfg.marker
  | .rxSkip c last crcm b => s.placeRx c true SEARCH last crcm b
  | .rxData c crcm b => s.placeRx c true ACCUM false crcm b
  | .rxCheckOk c b => s.placeRx c true ACCUM true true b
  | .rxCheckBad c b => s.placeRx c true ACCUM true false b
  | .rxReserved c st last crcm b => s.placeRx c true st last crcm b
  | .visitOff st => s.placeVisit false st
  | .visitIdle => s.placeVisit true SEARCH
  | .visitAge => s.placeVisit true ACCUM
  | .visitDispatch => s.placeVisit true READY
  | .visitReserved _ => s.placeVisit true 3#2
  | .xfReject => s.placeXf false
  | .xfAccept => s.placeXf true
  | .outPop => s.placePop
  | .rdId | .rdCtrl | .rdStatus | .rdRound | .rdFiltDist | .rdFiltInt | .rdTimeout
  | .rdChCfg _ | .rdChAng _ | .rdChPos _ | .rdChStat _
  | .rdCntOk _ | .rdCntCrc _ | .rdCntTmo _ | .rdCntRej _ | .rdUnmapped _
  | .wrId _ | .wrCtrl _ | .wrStatus _ | .wrRound _ | .wrFiltDist _ | .wrFiltInt _ | .wrTimeout _
  | .wrChCfg _ _ | .wrChAng _ _ | .wrChPos _ _ | .wrChStat _ _
  | .wrCntOk _ _ | .wrCntCrc _ _ | .wrCntTmo _ _ | .wrCntRej _ _ | .wrUnmapped _ _
  | .reset | .evReserved _ => s

/-- The event presented next, whatever stood first in the stimulus list. -/
def State.present (s : State) (e : Event) : State :=
  { s with env := { s.env with stim := .word e :: s.env.stim } }

end Sys2Proof.Machine
end

