-- ==== Sys2Proof/Machine/Step.lean ====
section
/-!
DEFINITION. One step of the machine: the turn at the head of the stimulus list (00_scope.md R10, R14; log 1).
-/

namespace Sys2Proof.Machine

/-- One step. A machine with a recorded model fault takes none (44_scheduler.md R207, log 3). Otherwise the agent whose
turn it is takes the step its event word selects; where it has no step the turn passes, and where the turn is the
environment's its bytes arrive (log 2). -/
def step (s : State) : Host.Outcome State Fault Refusal :=
  match s.modelFault with
  | some w => .fault (.modelFault w)
  | none =>
    match s.nextInstr with
    | some i => exec i s.endTurn
    | none => .next s.noStep

/-- s with the event word `w` (of `nbits` bits, the bits above them 0; operands outside the word at channel 0, data 0)
presented as the next event, and the state arranged so that its step exists and forms that word (log 4). A pattern
that is no event word leaves s as it is. -/
def State.withFetchWord (s : State) (nbits w : Nat) : State :=
  match tableEvent nbits w with
  | some e => { s.place (decode s.cfg e) with modelFault := none }.present e
  | none => s

end Sys2Proof.Machine
end

