-- ==== Sys2Proof/Safety.lean ====
section
/-!
DEFINITION. What a claim about the machine is stated in: the invariants of 10_state.md R23 and what goes with them, the
frames of the steps, and the plain-arithmetic readings of the rules that the operations of Machine/ are held against.
-/

namespace Sys2Proof.Machine

/-! ## Invariants -/

/-- The decoder invariants of 10_state.md R23, with st never 3 (R47), a disabled channel searching
(41_frame_decoder.md R134), and the packet buffer in its canonical form. -/
abbrev Channel.Inv (cfg : Config) (ch : Channel) : Prop :=
  ch.buf.wf cfg.pktLen
  ∧ ch.st ≠ 3#2
  ∧ (ch.chEn = false → ch.st = SEARCH)
  ∧ (ch.st = SEARCH → ch.cur = 0#7 ∧ ch.crc = 0x00#8 ∧ ch.age = 0#16)
  ∧ (ch.st = ACCUM →
      1 ≤ ch.cur.toNat ∧ ch.cur.toNat ≤ cfg.pktLen - 1 ∧ ch.buf.read 0 = cfg.marker
      ∧ ch.crc = crcOf cfg.crc (ch.buf.first ch.cur.toNat))
  ∧ (ch.st = READY →
      ch.cur.toNat = cfg.pktLen ∧ ch.buf.read 0 = cfg.marker
      ∧ crcOf cfg.crc (ch.buf.first (cfg.pktLen - 1)) = ch.buf.read (cfg.pktLen - 1))

/-- A record in the layout of 30_encoding.md R100: the channel and the sample in range, the top bits of W1 zero. -/
abbrev Record.Wf (nch : Nat) (r : Record) : Prop :=
  r.w1.extractLsb' 23 9 = 0#9 ∧ (r.w1.extractLsb' 20 3).toNat < nch ∧ (r.w1.extractLsb' 16 4).toNat < NSAMP

/-- The block's invariant: every channel's, the scheduler pointer below NCH (10_state.md R24), the latched channel below NCH
while a packet is latched (R25; before that R44 leaves it unspecified), OUTQ within its depth and its records laid out as R100 says (R26), and xk = 0 while the transform unit is idle
(44_scheduler.md R202). -/
abbrev Block.Inv (cfg : Config) (b : Block) : Prop :=
  (∀ c : Chan, (b.chan c).Inv cfg)
  ∧ b.sp.val < cfg.nch
  ∧ (b.xf.busy = true → b.xf.ch.val < cfg.nch)
  ∧ b.outq.length ≤ cfg.outDepth
  ∧ (∀ r ∈ b.outq, r.Wf cfg.nch)
  ∧ (b.xf.busy = false → b.xf.k = 0)

/-- The machine's invariant: a legal configuration (00_scope.md R7) and the block's. -/
abbrev State.Inv (s : State) : Prop := s.cfg.Legal ∧ s.hw.Inv s.cfg

/-- An idle block: no decoder, scheduler, transform or output step exists (70_reset_and_hazards.md R292). -/
abbrev Block.Idle (b : Block) : Prop := b.ctrl.en = false ∧ b.xf.busy = false ∧ b.outq = []

/-- What R163 and R164 (a), (b) of 42_geometry.md ask of every sine ROM: its ends, and that it is non-decreasing; so its
entries lie in 0..16384. -/
def LegalRom (rom : Nat → Nat) : Prop :=
  rom 0 = 0 ∧ rom 16384 = 16384 ∧ ∀ i j, i ≤ j → j ≤ 16384 → rom i ≤ rom j

/-! ## Rows -/

/-- The event word `w`, with the channel and the data that are no part of it, decodes to the row `i` (30_encoding.md R101,
R108). -/
def RowOf (cfg : Config) (w : Nat) (c : Chan) (d : Word) (i : Instr) : Prop :=
  decode cfg { word := BitVec.ofNat 16 w, chan := c, data := d } = i

/-! ## Frames -/

/-- What an RX step of channel c leaves as it was: every other channel and its queue, channel c's configuration and
its counters CNT_TMO and CNT_REJ, everything else of the block, the host's and the consumer's side. The head byte of
inq[c] is gone and `rest` is left (41_frame_decoder.md R130, R141). -/
def RxFrame (s t : State) (c : Chan) (rest : List Byte) : Prop :=
  t.env.inq[c] = rest
  ∧ (∀ d : Chan, d ≠ c → t.chan d = s.chan d ∧ t.env.inq[d] = s.env.inq[d])
  ∧ t.hw = { s.hw with chans := t.hw.chans }
  ∧ t.env = { s.env with inq := t.env.inq, raised := t.env.raised }
  ∧ t.cfg = s.cfg ∧ t.modelFault = s.modelFault
  ∧ t.chan c =
      { s.chan c with
        st := (t.chan c).st, cur := (t.chan c).cur, crc := (t.chan c).crc, age := (t.chan c).age
        buf := (t.chan c).buf, cntOk := (t.chan c).cntOk, cntCrc := (t.chan c).cntCrc }

/-- The pointer update of a visit, in arithmetic (44_scheduler.md R190). -/
def PointerMoved (nch : Nat) (b b' : Block) : Prop :=
  b'.sp.val = (b.sp.val + 1) % nch
  ∧ b'.round.toNat = (if (b.sp.val + 1) % nch = 0 then b.round.toNat + 1 else b.round.toNat) % 2 ^ 32

/-- The sample advance of an XF step (44_scheduler.md R202). -/
def SampleAdvanced (x x' : Xform) : Prop :=
  x' = { x with busy := x'.busy, k := x'.k }
  ∧ (x.k.val = 11 → x'.busy = false ∧ x'.k.val = 0)
  ∧ (x.k.val ≠ 11 → x'.busy = x.busy ∧ x'.k.val = x.k.val + 1)

/-- One diagnostic count, in arithmetic (60_exceptions.md R266). -/
def Counted (diagEn : Bool) (before after : Word) : Prop :=
  after.toNat = if diagEn then (before.toNat + 1) % 2 ^ 32 else before.toNat

/-- Two blocks agree on every diagnostic counter (10_state.md R42). -/
def SameCounters (b b' : Block) : Prop :=
  ∀ c : Chan, (b'.chan c).cntOk = (b.chan c).cntOk ∧ (b'.chan c).cntCrc = (b.chan c).cntCrc
    ∧ (b'.chan c).cntTmo = (b.chan c).cntTmo ∧ (b'.chan c).cntRej = (b.chan c).cntRej

/-- What an RX step of channel c may read and write (41_frame_decoder.md R141): the decoder and its two counters, its
queue, and CTRL.EN, CTRL.DIAG_EN and CH_EN[c]; with them the configuration, which is no state. -/
def SameRxView (s s' : State) (c : Chan) : Prop :=
  (s.chan c).st = (s'.chan c).st ∧ (s.chan c).cur = (s'.chan c).cur ∧ (s.chan c).crc = (s'.chan c).crc
  ∧ (s.chan c).age = (s'.chan c).age ∧ (s.chan c).buf = (s'.chan c).buf
  ∧ (s.chan c).cntOk = (s'.chan c).cntOk ∧ (s.chan c).cntCrc = (s'.chan c).cntCrc
  ∧ (s.chan c).chEn = (s'.chan c).chEn ∧ s.env.inq[c] = s'.env.inq[c]
  ∧ s.hw.ctrl.en = s'.hw.ctrl.en ∧ s.hw.ctrl.diagEn = s'.hw.ctrl.diagEn ∧ s.cfg = s'.cfg

/-- The rows of the RX class of channel c that have a hardware effect (41_frame_decoder.md R131 to R137). -/
def IsRxOf (c : Chan) : Instr → Prop
  | .rxDrain c' _ _ _ _ | .rxMarker c' _ _ | .rxSkip c' _ _ _ | .rxData c' _ _ | .rxCheckOk c' _
  | .rxCheckBad c' _ => c' = c
  | _ => False

/-- Channel c is inside a candidate packet of which it has taken the bytes q: none yet, in SEARCH, or 1 to PKT_LEN - 1
bytes, in ACCUM, which stand in its buffer and in its running CRC (10_state.md R23). -/
def Taken (s : State) (c : Chan) (q : List Byte) : Prop :=
  (q = [] ∧ (s.chan c).st = SEARCH)
  ∨ ((s.chan c).st = ACCUM ∧ 1 ≤ q.length ∧ q.length ≤ s.cfg.pktLen - 1 ∧ (s.chan c).cur.toNat = q.length
    ∧ (s.chan c).buf.first q.length = q ∧ (s.chan c).crc = crcOf s.cfg.crc q)

/-- Sample k of the dispatched packet passes the quality filter (43_filter.md R180). -/
def Accepted (x : Xform) (k : SampleIx) : Prop :=
  x.minDist.toNat < x.dist[k].toNat ∧ x.dist[k].toNat < x.maxDist.toNat ∧ x.minInt.toNat < x.inten[k].toNat

/-! ## Accounting -/

/-- The points of channel c that have entered OUTQ: those delivered to the consumer and those still queued. -/
def State.pointsOf (s : State) (c : Chan) : Nat :=
  ((s.env.delivered ++ s.hw.outq).filter fun r => (r.w1.extractLsb' 20 3).toNat == c.val).length

/-- The accounting identity of 60_exceptions.md R268 at every moment and modulo 2^32: twelve samples for each validated
packet that has been dispatched are points, rejections, or samples the transform unit still has to take. -/
def Accounted (s : State) : Prop :=
  ∀ c : Chan,
    12#32 * ((s.chan c).cntOk - if (s.chan c).st = READY then 1#32 else 0#32)
      = BitVec.ofNat 32 (s.pointsOf c) + (s.chan c).cntRej
        + if s.hw.xf.busy = true ∧ s.hw.xf.ch = c then BitVec.ofNat 32 (12 - s.hw.xf.k.val) else 0#32

/-! ## The transform, in plain arithmetic -/

/-- The end angle after the wrap fix, in centidegrees (42_geometry.md R154). -/
def endAngleCd (x : Xform) : Nat :=
  if x.wrap = true ∧ x.endAng.toNat < x.startAng.toNat then x.endAng.toNat + 36000 else x.endAng.toNat

/-- ANGLE of sample k (42_geometry.md R172, line by line). -/
def angleOf (x : Xform) (k : Nat) : Nat :=
  (4096 * ((11 - k) * x.startAng.toNat + k * endAngleCd x + 11 * x.off.toNat) + 12375) / 24750 % 65536

/-- The rotated angle of sample k (42_geometry.md R159). -/
def adjustedOf (x : Xform) (k : Nat) : Nat := (angleOf x k + 49152) % 65536

/-- Cosine of a 16-bit binary angle from a quarter-wave ROM (42_geometry.md R160). -/
def cosFrom (rom : Nat → Nat) (p : Nat) : Int :=
  if p < 16384 then rom (16384 - p)
  else if p < 32768 then -rom (p - 16384)
  else if p < 49152 then -rom (49152 - p)
  else rom (p - 49152)

/-- Sine of a 16-bit binary angle from a quarter-wave ROM (42_geometry.md R160). -/
def sinFrom (rom : Nat → Nat) (p : Nat) : Int :=
  if p < 16384 then rom p
  else if p < 32768 then rom (32768 - p)
  else if p < 49152 then -rom (p - 32768)
  else -rom (65536 - p)

/-- X of sample k, in millimetres (42_geometry.md R165, R168, R172). -/
def xOf (rom : Nat → Nat) (x : Xform) (k : SampleIx) : Int :=
  (-(cosFrom rom (adjustedOf x k.val) * x.dist[k].toNat) + 8192) / 16384
    + if x.posEn then x.px.toInt else 0

/-- Y of sample k, in millimetres (42_geometry.md R165, R168, R172). -/
def yOf (rom : Nat → Nat) (x : Xform) (k : SampleIx) : Int :=
  (sinFrom rom (adjustedOf x k.val) * x.dist[k].toNat + 8192) / 16384
    + if x.posEn then x.py.toInt else 0

/-- Entry j of a ROM is within 1/2 of 16384 * sin(2*pi*j/65536) for every j: the accuracy assumption (c) of
42_geometry.md R164. -/
def RomAccurate (rom : Nat → Nat) : Prop :=
  ∀ j, j ≤ 16384 → |(rom j : ℝ) - 16384 * Real.sin (2 * Real.pi * j / 65536)| ≤ 1 / 2

end Sys2Proof.Machine
end

