-- ==== Sys2Proof/Certificates/Slice0/Obligations.lean ====
section
/-!
DEFINITION. The statements for the provers. Each docstring names the rule of spec/ it states, or says what it is
derived from and which log entry it rests on.
-/

open Sys2Proof Sys2Proof.Machine

/-! ## Encoding -/

/-- Decoding the event of a well-formed instruction gives the instruction back, with every operand at every value the
encoding admits, in every legal configuration (30_encoding.md R101 to R108). -/
def Obligations.DecodeEncodeRoundTrip : Prop :=
  ∀ (cfg : Config) (i : Instr), cfg.Legal → i.WellFormed cfg = true → decode cfg (i.event cfg) = i

/-- The row an event decodes to is the first row of spec/opcode_table.json, as data in `opcodeTable`, whose mask and
match fit its word, for every NCH and MARKER (30_encoding.md R108). -/
def Obligations.DecodeFollowsOpcodeTable : Prop :=
  ∀ (cfg : Config) (e : Event), tableMnemonic cfg e.word = some (decode cfg e).mnemonic

/-- Every event decodes to a well-formed instruction; for the classes whose every bit is defined (BUS, RX and the
reserved classes) encoding it gives the word back, and for every class encoding it gives a word of the same row
(30_encoding.md R101, R109). -/
def Obligations.DecodedInstructionsReencode : Prop :=
  ∀ (cfg : Config) (e : Event), cfg.Legal →
    (decode cfg e).WellFormed cfg = true
    ∧ (e.word.toNat < 0x4000 ∨ 0xC000 ≤ e.word.toNat → encode cfg (decode cfg e) = e.word)
    ∧ tableMnemonic cfg (encode cfg (decode cfg e)) = tableMnemonic cfg e.word

/-- Words written out from 30_encoding.md R99 and R102 to R107 decode, on this hardware, to the rows they stand for. -/
def Obligations.SampleWordsDecode : Prop :=
  let row (w : EventWord) (c : Chan) (d : Word) : Instr := decode hardware { word := w, chan := c, data := d }
  row 0b0000000000001000#16 0 0#32 = .rdStatus
  ∧ row 0b0000000101101100#16 0 0#32 = .rdChStat 3
  ∧ row 0b0001000000000100#16 0 3#32 = .wrCtrl 3#32
  ∧ row 0b0011000001010100#16 2 0#32 = .rxMarker 2 false false
  ∧ row 0b0011011101111100#16 1 0#32 = .rxCheckOk 1 0x7C#8
  ∧ row 0b0101100000000000#16 0 0#32 = .visitDispatch
  ∧ row 0b0111000000000000#16 0 0#32 = .xfAccept
  ∧ row 0b1000000000000000#16 0 0#32 = .outPop
  ∧ row 0b1010000000000000#16 0 0#32 = .reset
  ∧ row 0b1100000000000000#16 0 0#32 = .evReserved 0#14

/-! ## The step -/

/-- A step runs the instruction its event decodes to, on the state whose turn is used up: the stimulus list has moved on
and the trace label is cleared (00_scope.md R10, R14; logs 1, 3). -/
def Obligations.StepRunsDecodedEvent : Prop :=
  ∀ (s : State) (e : Event), s.modelFault = none → s.nextEvent = some e →
    step s = exec (decode s.cfg e) { s with env := { s.env with stim := s.env.stim.tail, raised := .none } }

/-- The event word of each agent's step is formed from its inputs and the state before the step as R102 to R107 say:
bus reads and writes, the RX step of channel c taking the head byte b, VISIT, XF, POP and RESET. -/
def Obligations.EventWordsFormedFromState : Prop :=
  ∀ (s : State) (rest : List Stimulus),
    (∀ a, s.env.stim = .rd a :: rest →
      ∃ e, s.nextEvent = some e ∧ e.word.toNat = a.toNat)
    ∧ (∀ a d, s.env.stim = .wr a d :: rest →
      ∃ e, s.nextEvent = some e ∧ e.word.toNat = 0x1000 + a.toNat ∧ e.data = d)
    ∧ (∀ (c : Chan) (b : Byte) (bs : List Byte),
      c.val < s.cfg.nch →
      s.env.stim = .take c :: rest → s.env.inq[c] = b :: bs → s.hw.ctrl.en = true →
      ((s.chan c).chEn = false ∨ (s.chan c).st ≠ READY) →
      ∃ e, s.nextEvent = some e ∧ e.chan = c
        ∧ e.word.toNat = 0x2000 + 0x1000 * (s.chan c).chEn.toNat + 0x400 * (s.chan c).st.toNat
            + 0x200 * (if (s.chan c).cur.toNat = s.cfg.pktLen - 1 then 1 else 0)
            + 0x100 * (if b = (s.chan c).crc then 1 else 0) + b.toNat)
    ∧ (s.env.stim = .visit :: rest → s.hw.ctrl.en = true → s.hw.xf.busy = false →
      ∃ e, s.nextEvent = some e
        ∧ e.word.toNat
          = 0x4000 + 0x1000 * (s.chan s.hw.sp).chEn.toNat + 0x400 * (s.chan s.hw.sp).st.toNat)
    ∧ (s.env.stim = .xf :: rest → s.hw.xf.busy = true → Accepted s.hw.xf s.hw.xf.k →
      s.hw.outq.length < s.cfg.outDepth → ∃ e, s.nextEvent = some e ∧ e.word = 0x7000#16)
    ∧ (s.env.stim = .xf :: rest → s.hw.xf.busy = true → ¬Accepted s.hw.xf s.hw.xf.k →
      ∃ e, s.nextEvent = some e ∧ e.word = 0x6000#16)
    ∧ (s.env.stim = .pop :: rest → s.hw.outq ≠ [] → ∃ e, s.nextEvent = some e ∧ e.word = 0x8000#16)
    ∧ (s.env.stim = .reset :: rest → ∃ e, s.nextEvent = some e ∧ e.word = 0xA000#16)

/-- When an agent has no step: a decoder of a channel that does not exist, while CTRL.EN = 0, with no byte offered, or
READY and enabled (00_scope.md R9, R130, R135); the scheduler while CTRL.EN = 0 or xbusy = 1 (R190, R196); the transform
unit while xbusy = 0, or with an accepted sample and a full OUTQ (R200, R201); the consumer with an empty OUTQ (R205). -/
def Obligations.AgentsWithoutAStep : Prop :=
  ∀ (s : State) (rest : List Stimulus),
    (∀ c : Chan, s.env.stim = .take c :: rest →
      (s.nextEvent = none ↔
        s.cfg.nch ≤ c.val ∨ s.hw.ctrl.en = false ∨ s.env.inq[c] = []
          ∨ ((s.chan c).chEn = true ∧ (s.chan c).st = READY)))
    ∧ (s.env.stim = .visit :: rest →
      (s.nextEvent = none ↔ s.hw.ctrl.en = false ∨ s.hw.xf.busy = true))
    ∧ (s.env.stim = .xf :: rest →
      (s.nextEvent = none ↔
        s.hw.xf.busy = false ∨ (Accepted s.hw.xf s.hw.xf.k ∧ s.cfg.outDepth ≤ s.hw.outq.length)))
    ∧ (s.env.stim = .pop :: rest → (s.nextEvent = none ↔ s.hw.outq = []))

/-- A turn without a step changes nothing of the block and nothing at its ports but what the environment appends to its
queues. That the turn then passes is the model's choice (log 2). -/
def Obligations.PassedTurnChangesNothing : Prop :=
  ∀ s : State, s.modelFault = none → s.nextEvent = none →
    ∃ t, step s = .next t ∧ t.cfg = s.cfg ∧ t.hw = s.hw ∧ t.modelFault = none
      ∧ t.env = { s.env with stim := s.env.stim.tail, raised := .none, inq := t.env.inq }
      ∧ ∀ c : Chan, t.env.inq[c] = s.env.inq[c]
          ++ (match s.env.stim with
              | .rx d bytes :: _ => if c = d then bytes else []
              | _ => [])

/-- A machine that has recorded a model fault takes no further step, and the fault names the recorded word. That the
stop comes at the step after the recording is the model's choice (log 3; 44_scheduler.md R207). -/
def Obligations.RecordedModelFaultStopsTheMachine : Prop :=
  ∀ (s : State) (w : EventWord), s.modelFault = some w → step s = .fault (.modelFault w)

/-- After reset, until the host writes CTRL, no decoder, scheduler, transform or output step exists
(70_reset_and_hazards.md R292): the reset block is idle, an idle block offers none of these steps, and every step but a
write of CTRL keeps it idle. -/
def Obligations.IdleFromResetUntilCtrlIsWritten : Prop :=
  Block.reset.Idle
  ∧ (∀ (s : State) (rest : List Stimulus), s.hw.Idle →
      (s.env.stim = .visit :: rest ∨ s.env.stim = .xf :: rest ∨ s.env.stim = .pop :: rest
        ∨ ∃ c, s.env.stim = .take c :: rest) →
      s.nextEvent = none)
  ∧ ∀ s t : State, s.hw.Idle → step s = .next t → (∀ d, s.nextInstr ≠ some (.wrCtrl d)) → t.hw.Idle

/-- From a state that meets the invariant and has recorded no model fault, every step answers a next state: no input
byte, bus access or turn faults or is refused (60_exceptions.md R265, its first half; R220). A turn without a step answers
next by the model's choice (log 2), and so does a presented reserved word, which records its fault (log 3). That a channel
in ACCUM leaves it is in ValidPacketReachesReady and CorruptedPacketIsDiscarded. -/
def Obligations.NoFatalPath : Prop :=
  ∀ s : State, s.Inv → s.modelFault = none → ∃ t, step s = .next t

/-- Every instruction answers a next state in every state: bus accesses and RESET exist at every moment (R220, R290),
raising an error event stops nothing (R261, R265), an instruction that the state does not form passes the turn (log 2),
and a reserved row records its fault (log 3). The one exception is RX_DATA where the state forms that step with the cursor
past the end of the packet buffer, which no reachable state has (10_state.md R22, R23): there is no such byte, and the
step faults by name, the model's choice (log 8). -/
def Obligations.ExecAnswersNextBarBufferAddress : Prop :=
  ∀ (i : Instr) (s : State),
    let outside (c : Chan) (crcm : Bool) (b : Byte) : Prop :=
      i = .rxData c crcm b ∧ c.val < s.cfg.nch ∧ s.hw.ctrl.en = true ∧ s.env.inq[c].head? = some b
      ∧ (s.chan c).chEn = true ∧ (s.chan c).st = ACCUM ∧ s.cfg.pktLen ≤ (s.chan c).cur.toNat
      ∧ (s.chan c).cur.toNat ≠ s.cfg.pktLen - 1 ∧ crcm = decide (b = (s.chan c).crc)
    ((∀ c crcm b, ¬outside c crcm b) → ∃ t, exec i s = .next t)
    ∧ ∀ c crcm b, outside c crcm b → exec i s = .fault (.bufferAddress c (s.chan c).cur.toNat)

/-! ## Bus reads -/

/-- The global registers but STATUS read as R222, R223 and R225 to R228 say at their addresses, and the read changes
nothing but the word on the bus. -/
def Obligations.GlobalReadsReturnRegisters : Prop :=
  ∀ (s : State) (c : Chan) (d : Word), s.cfg.Legal →
    let reads (a : Nat) (i : Instr) (n : Nat) : Prop :=
      RowOf s.cfg a c d i ∧ exec i s = .next { s with env := { s.env with rdata := BitVec.ofNat 32 n } } ∧ n < 2 ^ 32
    reads 0x000 .rdId (0x544C * 2 ^ 16 + s.cfg.nch * 2 ^ 8 + s.cfg.pktLen)
    ∧ reads 0x004 .rdCtrl (s.hw.ctrl.diagEn.toNat * 8 + s.hw.ctrl.posEn.toNat * 4
        + s.hw.ctrl.wrapFix.toNat * 2 + s.hw.ctrl.en.toNat)
    ∧ reads 0x00C .rdRound s.hw.round.toNat
    ∧ reads 0x010 .rdFiltDist (s.hw.maxDist.toNat * 2 ^ 16 + s.hw.minDist.toNat)
    ∧ reads 0x014 .rdFiltInt s.hw.minInt.toNat
    ∧ reads 0x018 .rdTimeout s.hw.tmoRounds.toNat

/-- STATUS reads as R224 says, its fields taken in one atomic step, and the read changes nothing but the word on the
bus; |OUTQ| is at most OUT_DEPTH, at most 255, by the invariant (10_state.md R26; log 13). -/
def Obligations.StatusReadReturnsView : Prop :=
  ∀ (s : State) (c : Chan) (d : Word), s.hw.outq.length ≤ s.cfg.outDepth → s.cfg.outDepth ≤ 255 →
    RowOf s.cfg 0x008 c d .rdStatus
    ∧ ∃ t, exec .rdStatus s = .next t ∧ t = { s with env := { s.env with rdata := t.env.rdata } }
      ∧ t.env.rdata.toNat
        = (if s.hw.xf.busy then s.hw.xf.ch.val else 0) * 2 ^ 24
          + (if s.hw.xf.busy then s.hw.xf.k.val else 0) * 2 ^ 20
          + s.hw.sp.val * 2 ^ 16 + s.hw.outq.length * 2 ^ 8
          + (if s.hw.outq.length = 0 then 1 else 0) * 2 ^ 2
          + (if s.hw.outq.length = s.cfg.outDepth then 1 else 0) * 2 + s.hw.xf.busy.toNat

/-- The registers of channel c read as R229 to R236 say at their addresses, and the read changes nothing but the word on
the bus. -/
def Obligations.ChannelReadsReturnRegisters : Prop :=
  ∀ (s : State) (c e : Chan) (d : Word), c.val < s.cfg.nch →
    let reads (a : Nat) (i : Instr) (n : Nat) : Prop :=
      RowOf s.cfg (a + 0x20 * c.val) e d i
      ∧ exec i s = .next { s with env := { s.env with rdata := BitVec.ofNat 32 n } } ∧ n < 2 ^ 32
    reads 0x100 (.rdChCfg c) ((s.chan c).chEn.toNat * 2 ^ 8 + (s.chan c).devId.toNat)
    ∧ reads 0x104 (.rdChAng c) (s.chan c).angOff.toNat
    ∧ reads 0x108 (.rdChPos c) ((s.chan c).posY.toNat * 2 ^ 16 + (s.chan c).posX.toNat)
    ∧ reads 0x10C (.rdChStat c)
        ((s.chan c).age.toNat * 2 ^ 16 + (s.chan c).cur.toNat * 2 ^ 8 + (s.chan c).st.toNat)
    ∧ reads 0x110 (.rdCntOk c) (s.chan c).cntOk.toNat
    ∧ reads 0x114 (.rdCntCrc c) (s.chan c).cntCrc.toNat
    ∧ reads 0x118 (.rdCntTmo c) (s.chan c).cntTmo.toNat
    ∧ reads 0x11C (.rdCntRej c) (s.chan c).cntRej.toNat

/-- A misaligned address, 0x01C, 0x020 to 0x0FF, the blocks of channels that do not exist and 0x200 to 0xFFF are
unmapped: a read returns 0 and changes no state of the block, a write changes nothing (R252, R253). -/
def Obligations.UnmappedAccessesDoNothing : Prop :=
  ∀ (a : Addr) (d : Word) (c : Chan) (s : State), s.cfg.Legal →
    exec (.rdUnmapped a) s = .next { s with env := { s.env with rdata := 0#32 } }
    ∧ exec (.wrUnmapped a d) s = .next s
    ∧ (a.toNat % 4 ≠ 0 ∨ a.toNat = 0x01C ∨ (0x020 ≤ a.toNat ∧ a.toNat ≤ 0x0FF)
        ∨ (0x100 + 0x20 * s.cfg.nch ≤ a.toNat ∧ a.toNat < 0x200) ∨ 0x200 ≤ a.toNat →
      RowOf s.cfg a.toNat c d (.rdUnmapped a) ∧ RowOf s.cfg (0x1000 + a.toNat) c d (.wrUnmapped a d))

/-! ## Bus writes -/

/-- A write to ID, STATUS, ROUND or CH_STAT changes no state (R237, R239, R240, R247). -/
def Obligations.ReadOnlyWritesChangeNothing : Prop :=
  ∀ (s : State) (c e : Chan) (d : Word), c.val < s.cfg.nch →
    let ignored (a : Nat) (i : Instr) : Prop := RowOf s.cfg (0x1000 + a) e d i ∧ exec i s = .next s
    ignored 0x000 (.wrId d) ∧ ignored 0x008 (.wrStatus d) ∧ ignored 0x00C (.wrRound d)
    ∧ ignored (0x10C + 0x20 * c.val) (.wrChStat c d)

/-- WR_CTRL (R238): EN and DIAG_EN always take D[0] and D[3]; WRAP_FIX and POS_EN take D[1] and D[2] only if EN was 0;
nothing else changes. -/
def Obligations.CtrlWriteRespectsFreeze : Prop :=
  ∀ (s : State) (e : Chan) (d : Word),
    RowOf s.cfg 0x1004 e d (.wrCtrl d)
    ∧ ∃ t, exec (.wrCtrl d) s = .next t ∧ t = { s with hw := { s.hw with ctrl := t.hw.ctrl } }
      ∧ t.hw.ctrl.en.toNat = d.toNat % 2 ∧ t.hw.ctrl.diagEn.toNat = d.toNat / 8 % 2
      ∧ (s.hw.ctrl.en = false →
          t.hw.ctrl.wrapFix.toNat = d.toNat / 2 % 2 ∧ t.hw.ctrl.posEn.toNat = d.toNat / 4 % 2)
      ∧ (s.hw.ctrl.en = true →
          t.hw.ctrl.wrapFix = s.hw.ctrl.wrapFix ∧ t.hw.ctrl.posEn = s.hw.ctrl.posEn)

/-- WR_FILT_DIST, WR_FILT_INT and WR_TIMEOUT (R241 to R243): the fields take the bits of D if CTRL.EN = 0, and nothing
changes if CTRL.EN = 1. -/
def Obligations.GlobalConfigWrites : Prop :=
  ∀ (s : State) (e : Chan) (d : Word),
    let writes (a : Nat) (i : Instr) (b : Block) : Prop :=
      RowOf s.cfg (0x1000 + a) e d i
      ∧ (s.hw.ctrl.en = false → exec i s = .next { s with hw := b })
      ∧ (s.hw.ctrl.en = true → exec i s = .next s)
    writes 0x010 (.wrFiltDist d)
      { s.hw with minDist := BitVec.ofNat 16 d.toNat, maxDist := BitVec.ofNat 16 (d.toNat / 2 ^ 16) }
    ∧ writes 0x014 (.wrFiltInt d) { s.hw with minInt := BitVec.ofNat 8 d.toNat }
    ∧ writes 0x018 (.wrTimeout d) { s.hw with tmoRounds := BitVec.ofNat 16 d.toNat }

/-- WR_CH_ANG and WR_CH_POS (R245, R246): the channel's fields take the bits of D if CTRL.EN = 0, and nothing changes if
CTRL.EN = 1. -/
def Obligations.ChannelConfigWrites : Prop :=
  ∀ (s : State) (c e : Chan) (d : Word), c.val < s.cfg.nch →
    let writes (a : Nat) (i : Instr) (ch : Channel) : Prop :=
      RowOf s.cfg (0x1000 + a + 0x20 * c.val) e d i
      ∧ (s.hw.ctrl.en = false →
          exec i s = .next { s with hw := { s.hw with chans := s.hw.chans.set c ch } })
      ∧ (s.hw.ctrl.en = true → exec i s = .next s)
    writes 0x104 (.wrChAng c d) { s.chan c with angOff := BitVec.ofNat 16 d.toNat }
    ∧ writes 0x108 (.wrChPos c d)
        { s.chan c with posX := BitVec.ofNat 16 d.toNat, posY := BitVec.ofNat 16 (d.toNat / 2 ^ 16) }

/-- WR_CH_CFG (R244): if CTRL.EN = 0, DEV_ID and CH_EN take D[7:0] and D[8], and where CH_EN goes from 1 to 0 the
channel returns to SEARCH, with no counter and no event; the other channels and everything else stay. If CTRL.EN = 1
nothing changes. -/
def Obligations.ChannelEnableWrite : Prop :=
  ∀ (s : State) (c o : Chan) (d : Word), c.val < s.cfg.nch →
    RowOf s.cfg (0x1100 + 0x20 * c.val) o d (.wrChCfg c d)
    ∧ (s.hw.ctrl.en = true → exec (.wrChCfg c d) s = .next s)
    ∧ (s.hw.ctrl.en = false →
      ∃ t, exec (.wrChCfg c d) s = .next t
        ∧ t = { s with hw := { s.hw with chans := t.hw.chans } }
        ∧ (∀ e : Chan, e ≠ c → t.chan e = s.chan e)
        ∧ (t.chan c).devId.toNat = d.toNat % 256
        ∧ (t.chan c).chEn.toNat = d.toNat / 256 % 2
        ∧ ((s.chan c).chEn = true ∧ d.toNat / 256 % 2 = 0 →
            t.chan c = { s.chan c with
              devId := (t.chan c).devId, chEn := false, st := SEARCH, cur := 0#7, crc := 0x00#8, age := 0#16 })
        ∧ (¬((s.chan c).chEn = true ∧ d.toNat / 256 % 2 = 0) →
            t.chan c = { s.chan c with devId := (t.chan c).devId, chEn := (t.chan c).chEn }))

/-- WR_CNT_OK, WR_CNT_CRC, WR_CNT_TMO and WR_CNT_REJ (R248 to R251): the counter takes D at any time, whatever CTRL.EN
is, and nothing else changes. -/
def Obligations.CounterWritesSetCounters : Prop :=
  ∀ (s : State) (c e : Chan) (d : Word), c.val < s.cfg.nch →
    let writes (a : Nat) (i : Instr) (ch : Channel) : Prop :=
      RowOf s.cfg (0x1000 + a + 0x20 * c.val) e d i
      ∧ exec i s = .next { s with hw := { s.hw with chans := s.hw.chans.set c ch } }
    writes 0x110 (.wrCntOk c d) { s.chan c with cntOk := d }
    ∧ writes 0x114 (.wrCntCrc c d) { s.chan c with cntCrc := d }
    ∧ writes 0x118 (.wrCntTmo c d) { s.chan c with cntTmo := d }
    ∧ writes 0x11C (.wrCntRej c d) { s.chan c with cntRej := d }

/-- The configuration freeze over the whole machine, field by field (10_state.md R30): a step other than RESET
(70_reset_and_hazards.md R290) that changes a CFG field is a bus write of the register that holds it, made while
CTRL.EN = 0. -/
def Obligations.ConfigurationFrozenWhileEnabled : Prop :=
  ∀ s t : State, step s = .next t → s.nextInstr ≠ some .reset →
    let writtenBy (i : Word → Instr) : Prop := s.hw.ctrl.en = false ∧ ∃ d, s.nextInstr = some (i d)
    (t.hw.minDist ≠ s.hw.minDist ∨ t.hw.maxDist ≠ s.hw.maxDist → writtenBy .wrFiltDist)
    ∧ (t.hw.minInt ≠ s.hw.minInt → writtenBy .wrFiltInt)
    ∧ (t.hw.tmoRounds ≠ s.hw.tmoRounds → writtenBy .wrTimeout)
    ∧ (t.hw.ctrl.wrapFix ≠ s.hw.ctrl.wrapFix ∨ t.hw.ctrl.posEn ≠ s.hw.ctrl.posEn → writtenBy .wrCtrl)
    ∧ ∀ c : Chan,
        ((t.chan c).devId ≠ (s.chan c).devId ∨ (t.chan c).chEn ≠ (s.chan c).chEn → writtenBy (.wrChCfg c))
        ∧ ((t.chan c).angOff ≠ (s.chan c).angOff → writtenBy (.wrChAng c))
        ∧ ((t.chan c).posX ≠ (s.chan c).posX ∨ (t.chan c).posY ≠ (s.chan c).posY → writtenBy (.wrChPos c))

/-! ## The frame decoder -/

/-- RX_MARKER (R131): in SEARCH the marker byte is stored at index 0 and starts the CRC, cur is 1, age 0, the state
ACCUM; the counters and every other byte of the buffer stay. The running CRC is that of the configuration's table (R122). -/
def Obligations.RxMarkerStartsPacket : Prop :=
  ∀ (s : State) (c : Chan) (rest : List Byte) (last crcm : Bool),
    c.val < s.cfg.nch → s.hw.ctrl.en = true → s.env.inq[c] = s.cfg.marker :: rest →
    (s.chan c).chEn = true → (s.chan c).st = SEARCH →
    last = decide ((s.chan c).cur.toNat = s.cfg.pktLen - 1) → crcm = decide (s.cfg.marker = (s.chan c).crc) →
    RowOf s.cfg (0x3000 + 0x200 * last.toNat + 0x100 * crcm.toNat + s.cfg.marker.toNat) c 0#32 (.rxMarker c last crcm)
    ∧ ∃ t, exec (.rxMarker c last crcm) s = .next t ∧ RxFrame s t c rest ∧ t.env.raised = s.env.raised
      ∧ (t.chan c).st = ACCUM ∧ (t.chan c).cur.toNat = 1
      ∧ (t.chan c).crc = s.cfg.crc (0x00#8 ^^^ s.cfg.marker) ∧ (t.chan c).age = 0#16
      ∧ (t.chan c).cntOk = (s.chan c).cntOk ∧ (t.chan c).cntCrc = (s.chan c).cntCrc
      ∧ ∀ a, (t.chan c).buf.read a = if a = 0 then s.cfg.marker else (s.chan c).buf.read a

/-- RX_DATA (R132): in ACCUM, before the last byte, the byte is stored at cur, the CRC takes it, and cur advances by one;
a marker value is data like any other. cur is at most PKT_LEN - 1 in ACCUM by the invariant (10_state.md R23). The
running CRC is that of the configuration's table (R122). -/
def Obligations.RxDataStoresByte : Prop :=
  ∀ (s : State) (c : Chan) (b : Byte) (rest : List Byte) (crcm : Bool),
    s.cfg.Legal → c.val < s.cfg.nch → s.hw.ctrl.en = true → s.env.inq[c] = b :: rest →
    (s.chan c).chEn = true → (s.chan c).st = ACCUM → (s.chan c).cur.toNat < s.cfg.pktLen - 1 →
    crcm = decide (b = (s.chan c).crc) →
    RowOf s.cfg (0x3400 + 0x100 * crcm.toNat + b.toNat) c 0#32 (.rxData c crcm b)
    ∧ ∃ t, exec (.rxData c crcm b) s = .next t ∧ RxFrame s t c rest ∧ t.env.raised = s.env.raised
      ∧ (t.chan c).st = ACCUM ∧ (t.chan c).cur.toNat = (s.chan c).cur.toNat + 1
      ∧ (t.chan c).crc = s.cfg.crc ((s.chan c).crc ^^^ b) ∧ (t.chan c).age = (s.chan c).age
      ∧ (t.chan c).cntOk = (s.chan c).cntOk ∧ (t.chan c).cntCrc = (s.chan c).cntCrc
      ∧ ∀ a, (t.chan c).buf.read a = if a = (s.chan c).cur.toNat then b else (s.chan c).buf.read a

/-- RX_CHECK_OK (R133): the last byte, equal to the running CRC, is stored at PKT_LEN - 1 and the packet is READY with
cur = PKT_LEN; CNT_OK counts while DIAG_EN = 1; crc and age stay. -/
def Obligations.RxCheckOkMakesReady : Prop :=
  ∀ (s : State) (c : Chan) (b : Byte) (rest : List Byte),
    s.cfg.Legal → c.val < s.cfg.nch → s.hw.ctrl.en = true → s.env.inq[c] = b :: rest →
    (s.chan c).chEn = true → (s.chan c).st = ACCUM → (s.chan c).cur.toNat = s.cfg.pktLen - 1 → b = (s.chan c).crc →
    RowOf s.cfg (0x3700 + b.toNat) c 0#32 (.rxCheckOk c b)
    ∧ ∃ t, exec (.rxCheckOk c b) s = .next t ∧ RxFrame s t c rest ∧ t.env.raised = s.env.raised
      ∧ (t.chan c).st = READY ∧ (t.chan c).cur.toNat = s.cfg.pktLen
      ∧ (t.chan c).crc = (s.chan c).crc ∧ (t.chan c).age = (s.chan c).age
      ∧ Counted s.hw.ctrl.diagEn (s.chan c).cntOk (t.chan c).cntOk ∧ (t.chan c).cntCrc = (s.chan c).cntCrc
      ∧ ∀ a, (t.chan c).buf.read a = if a = s.cfg.pktLen - 1 then b else (s.chan c).buf.read a

/-- RX_CHECK_BAD (R136): the last byte, different from the running CRC, is not stored; ChecksumError of channel c is
raised, CNT_CRC counts while DIAG_EN = 1, and the channel returns to SEARCH; the buffer stays. -/
def Obligations.RxCheckBadDiscardsPacket : Prop :=
  ∀ (s : State) (c : Chan) (b : Byte) (rest : List Byte),
    c.val < s.cfg.nch → s.hw.ctrl.en = true → s.env.inq[c] = b :: rest →
    (s.chan c).chEn = true → (s.chan c).st = ACCUM → (s.chan c).cur.toNat = s.cfg.pktLen - 1 → b ≠ (s.chan c).crc →
    RowOf s.cfg (0x3600 + b.toNat) c 0#32 (.rxCheckBad c b)
    ∧ ∃ t, exec (.rxCheckBad c b) s = .next t ∧ RxFrame s t c rest ∧ t.env.raised = .checksumError c
      ∧ (t.chan c).st = SEARCH ∧ (t.chan c).cur.toNat = 0
      ∧ (t.chan c).crc = 0x00#8 ∧ (t.chan c).age = 0#16
      ∧ (t.chan c).cntOk = (s.chan c).cntOk
      ∧ Counted s.hw.ctrl.diagEn (s.chan c).cntCrc (t.chan c).cntCrc
      ∧ (t.chan c).buf = (s.chan c).buf

/-- RX_SKIP (R137) and RX_DRAIN (R134): the byte is discarded and no state of the block changes. RX_SKIP is a non-marker
byte while searching; RX_DRAIN any byte of a disabled channel, in any state of its decoder. -/
def Obligations.SkippedAndDrainedBytesChangeNothing : Prop :=
  ∀ (s : State) (c : Chan) (b : Byte) (rest : List Byte) (last crcm : Bool),
    c.val < s.cfg.nch → s.hw.ctrl.en = true → s.env.inq[c] = b :: rest →
    last = decide ((s.chan c).cur.toNat = s.cfg.pktLen - 1) → crcm = decide (b = (s.chan c).crc) →
    let t : State := { s with env := { s.env with inq := s.env.inq.set c rest } }
    let low : Nat := 0x200 * last.toNat + 0x100 * crcm.toNat + b.toNat
    ((s.chan c).chEn = true → (s.chan c).st = SEARCH → b ≠ s.cfg.marker →
      RowOf s.cfg (0x3000 + low) c 0#32 (.rxSkip c last crcm b) ∧ exec (.rxSkip c last crcm b) s = .next t)
    ∧ ((s.chan c).chEn = false →
      RowOf s.cfg (0x2000 + 0x400 * (s.chan c).st.toNat + low) c 0#32 (.rxDrain c (s.chan c).st last crcm b)
      ∧ exec (.rxDrain c (s.chan c).st last crcm b) s = .next t)

/-- The reserved event words (R207, R138, R195): whatever event decodes to RX_RESERVED, VISIT_RESERVED or EV_RESERVED,
its step records a model fault naming its event word, keeps a fault recorded before, and has no other effect. That the
record is a field of the state is the model's choice (log 3). -/
def Obligations.ReservedEventsRecordModelFault : Prop :=
  ∀ (e : Event) (s : State),
    let i := decode s.cfg e
    (∃ c st last crcm b, i = .rxReserved c st last crcm b) ∨ (∃ low, i = .visitReserved low) ∨ (∃ low, i = .evReserved low) →
    exec i s = .next { s with modelFault := some (s.modelFault.getD e.word) }

/-- Channel isolation (R141): an RX step of channel c leaves every other channel, its queue, and all of the block but
channel c's decoder and counters as they were, and what it does to channel c depends only on what it may read. -/
def Obligations.RxStepsIsolateChannels : Prop :=
  ∀ (i : Instr) (c : Chan), IsRxOf c i →
    (∀ s t : State, exec i s = .next t →
      (∀ d : Chan, d ≠ c → t.chan d = s.chan d ∧ t.env.inq[d] = s.env.inq[d])
      ∧ t.hw = { s.hw with chans := t.hw.chans }
      ∧ t.chan c =
          { s.chan c with
            st := (t.chan c).st, cur := (t.chan c).cur, crc := (t.chan c).crc, age := (t.chan c).age
            buf := (t.chan c).buf, cntOk := (t.chan c).cntOk, cntCrc := (t.chan c).cntCrc })
    ∧ (∀ s₁ s₂ t₁ t₂ : State, SameRxView s₁ s₂ c → exec i s₁ = .next t₁ → exec i s₂ = .next t₂ →
      SameRxView t₁ t₂ c)

/-- READY holds the input (R135): a READY packet of an enabled channel stays, and no byte of its channel is taken, on
every step but a VISIT_DISPATCH of the channel, a write that clears its CH_EN, and RESET. -/
def Obligations.ReadyHoldsUntilReleased : Prop :=
  ∀ (s t : State) (c : Chan), (s.chan c).chEn = true → (s.chan c).st = READY → step s = .next t →
    s.nextInstr ≠ some .reset →
    ¬(s.nextInstr = some .visitDispatch ∧ s.hw.sp = c) →
    (∀ d : Word, s.nextInstr = some (.wrChCfg c d) → s.hw.ctrl.en = true ∨ d.getLsbD 8 = true) →
    (t.chan c).st = READY ∧ (t.chan c).chEn = true ∧ (t.chan c).cur = (s.chan c).cur
      ∧ (t.chan c).buf = (s.chan c).buf ∧ ∃ more, t.env.inq[c] = s.env.inq[c] ++ more

/-- The packet boundary theorem (R142, R91): PKT_LEN bytes that begin with the marker and end with the CRC of all before
them make the channel READY with exactly these bytes in its buffer. Of the bytes the channel may have taken some already,
the list q: none in SEARCH, at most PKT_LEN - 1 in ACCUM; so it also says that a channel in ACCUM leaves it within
PKT_LEN - 1 further bytes (60_exceptions.md R265). The CRC is over the configuration's table, by default the one of
40_crc.md R121 (log 10). -/
def Obligations.ValidPacketReachesReady : Prop :=
  ∀ (s : State) (c : Chan) (q p rest : List Byte) (turns : List Stimulus),
    s.cfg.Legal → c.val < s.cfg.nch → s.modelFault = none → s.hw.ctrl.en = true → (s.chan c).chEn = true →
    Taken s c q → (q ++ p).length = s.cfg.pktLen → (q ++ p).head? = some s.cfg.marker →
    (q ++ p).getLast? = some (crcOf s.cfg.crc ((q ++ p).take (s.cfg.pktLen - 1))) →
    s.env.inq[c] = p ++ rest → s.env.stim = List.replicate p.length (.take c) ++ turns →
    ∃ t, Sys2Proof.core.run p.length s = .next t
      ∧ (t.chan c).st = READY ∧ (t.chan c).cur.toNat = s.cfg.pktLen
      ∧ (t.chan c).buf.first s.cfg.pktLen = q ++ p
      ∧ t.env.inq[c] = rest ∧ t.env.stim = turns
      ∧ Counted s.hw.ctrl.diagEn (s.chan c).cntOk (t.chan c).cntOk
      ∧ ∀ d : Chan, d ≠ c → t.chan d = s.chan d

/-- A packet whose checksum byte is wrong is discarded (R142 b, R136): after its PKT_LEN bytes the channel searches
again, and CNT_CRC has counted one ChecksumError while DIAG_EN = 1. Of the bytes the channel may have taken some already,
the list q, in SEARCH none, in ACCUM at most PKT_LEN - 1 (60_exceptions.md R265). The CRC is over the configuration's
table, by default the one of 40_crc.md R121 (log 10). -/
def Obligations.CorruptedPacketIsDiscarded : Prop :=
  ∀ (s : State) (c : Chan) (q p rest : List Byte) (turns : List Stimulus),
    s.cfg.Legal → c.val < s.cfg.nch → s.modelFault = none → s.hw.ctrl.en = true → (s.chan c).chEn = true →
    Taken s c q → (q ++ p).length = s.cfg.pktLen → (q ++ p).head? = some s.cfg.marker →
    (q ++ p).getLast? ≠ some (crcOf s.cfg.crc ((q ++ p).take (s.cfg.pktLen - 1))) →
    s.env.inq[c] = p ++ rest → s.env.stim = List.replicate p.length (.take c) ++ turns →
    ∃ t, Sys2Proof.core.run p.length s = .next t
      ∧ (t.chan c).st = SEARCH ∧ (t.chan c).cur.toNat = 0 ∧ (t.chan c).crc = 0x00#8 ∧ (t.chan c).age = 0#16
      ∧ t.env.inq[c] = rest ∧ t.env.stim = turns ∧ t.env.raised = .checksumError c
      ∧ (t.chan c).cntOk = (s.chan c).cntOk
      ∧ Counted s.hw.ctrl.diagEn (s.chan c).cntCrc (t.chan c).cntCrc
      ∧ ∀ d : Chan, d ≠ c → t.chan d = s.chan d

/-- No marker, no packet (R137, R142 a): a stream without the marker byte, taken from SEARCH, leaves the whole block as
it was. -/
def Obligations.NoMarkerNoPacket : Prop :=
  ∀ (s : State) (c : Chan) (p rest : List Byte) (turns : List Stimulus),
    c.val < s.cfg.nch → s.modelFault = none → s.hw.ctrl.en = true → (s.chan c).chEn = true → (s.chan c).st = SEARCH →
    s.cfg.marker ∉ p → s.env.inq[c] = p ++ rest → s.env.stim = List.replicate p.length (.take c) ++ turns →
    ∃ t, Sys2Proof.core.run p.length s = .next t ∧ t.hw = s.hw ∧ t.env.inq[c] = rest ∧ t.env.stim = turns

/-! ## The scheduler -/

/-- VISIT_IDLE (R193) and VISIT_OFF (R194): only the pointer update of R190. -/
def Obligations.IdleVisitsOnlyMoveThePointer : Prop :=
  ∀ s : State, s.cfg.Legal → s.hw.ctrl.en = true → s.hw.xf.busy = false →
    let moves (w : Nat) (i : Instr) : Prop :=
      RowOf s.cfg w 0 0#32 i ∧ ∃ t, exec i s = .next t ∧ PointerMoved s.cfg.nch s.hw t.hw
        ∧ t = { s with hw := { s.hw with sp := t.hw.sp, round := t.hw.round } }
    ((s.chan s.hw.sp).chEn = true → (s.chan s.hw.sp).st = SEARCH → moves 0x5000 .visitIdle)
    ∧ ((s.chan s.hw.sp).chEn = false →
      moves (0x4000 + 0x400 * (s.chan s.hw.sp).st.toNat) (.visitOff (s.chan s.hw.sp).st))

/-- VISIT_DISPATCH (R191, R150): the packet's fields, little-endian at their offsets, and the configuration are latched,
the transform unit is busy at sample 0, the channel returns to SEARCH, and the pointer moves; everything else stays. -/
def Obligations.DispatchLatchesPacket : Prop :=
  ∀ s : State, s.cfg.Legal → s.hw.ctrl.en = true → s.hw.xf.busy = false →
    (s.chan s.hw.sp).chEn = true → (s.chan s.hw.sp).st = READY →
    RowOf s.cfg 0x5800 0 0#32 .visitDispatch
    ∧ ∃ t, exec .visitDispatch s = .next t ∧ PointerMoved s.cfg.nch s.hw t.hw
      ∧ t = { s with hw :=
          { s.hw with chans := t.hw.chans, xf := t.hw.xf, sp := t.hw.sp, round := t.hw.round } }
      ∧ (let c := s.hw.sp
         let ch := s.chan c
         let byte (o : Nat) : Nat := (ch.buf.read o).toNat
         let x := t.hw.xf
         t.chan c = { ch with st := SEARCH, cur := 0#7, crc := 0x00#8, age := 0#16 }
         ∧ (∀ d : Chan, d ≠ c → t.chan d = s.chan d)
         ∧ x.busy = true ∧ x.k.val = 0 ∧ x.ch = c ∧ x.dev = ch.devId
         ∧ x.startAng.toNat = byte 4 + 256 * byte 5 ∧ x.endAng.toNat = byte 42 + 256 * byte 43
         ∧ (∀ k : SampleIx, x.dist[k].toNat = byte (6 + 3 * k.val) + 256 * byte (7 + 3 * k.val)
             ∧ x.inten[k].toNat = byte (8 + 3 * k.val))
         ∧ x.off = ch.angOff ∧ x.px = ch.posX ∧ x.py = ch.posY
         ∧ x.minDist = s.hw.minDist ∧ x.maxDist = s.hw.maxDist ∧ x.minInt = s.hw.minInt
         ∧ x.wrap = s.hw.ctrl.wrapFix ∧ x.posEn = s.hw.ctrl.posEn)

/-- VISIT_AGE (R192): the age goes up by one, saturating at 0xFFFF; where TMO_ROUNDS is not 0 and the new age reaches it,
TimeoutError is raised instead, CNT_TMO counts while DIAG_EN = 1, and the channel returns to SEARCH. The pointer moves,
everything else stays. -/
def Obligations.AgeVisitTimesOut : Prop :=
  ∀ s : State, s.cfg.Legal → s.hw.ctrl.en = true → s.hw.xf.busy = false →
    (s.chan s.hw.sp).chEn = true → (s.chan s.hw.sp).st = ACCUM →
    RowOf s.cfg 0x5400 0 0#32 .visitAge
    ∧ ∃ t, exec .visitAge s = .next t ∧ PointerMoved s.cfg.nch s.hw t.hw
      ∧ t = { s with
          hw := { s.hw with chans := t.hw.chans, sp := t.hw.sp, round := t.hw.round }
          env := { s.env with raised := t.env.raised } }
      ∧ (∀ d : Chan, d ≠ s.hw.sp → t.chan d = s.chan d)
      ∧ (let c := s.hw.sp
         let ch := s.chan c
         let a := min (ch.age.toNat + 1) 0xFFFF
         if s.hw.tmoRounds.toNat ≠ 0 ∧ s.hw.tmoRounds.toNat ≤ a then
           t.env.raised = .timeoutError c ∧ Counted s.hw.ctrl.diagEn ch.cntTmo (t.chan c).cntTmo
           ∧ t.chan c = { ch with
               st := SEARCH, cur := 0#7, crc := 0x00#8, age := 0#16, cntTmo := (t.chan c).cntTmo }
         else
           t.env.raised = s.env.raised ∧ (t.chan c).age.toNat = a
           ∧ t.chan c = { ch with age := (t.chan c).age })

/-- A quiet round (R190, R197): NCH visits from channel 0, with no packet READY in an enabled channel and TMO_ROUNDS = 0,
visit each channel exactly once, whichever channels are enabled: each partial packet of an enabled channel ages by one
visit, ROUND counts one round, and the pointer is back at channel 0. -/
def Obligations.QuietRoundVisitsEachChannelOnce : Prop :=
  ∀ (s : State) (turns : List Stimulus),
    s.cfg.Legal → s.modelFault = none → s.hw.ctrl.en = true → s.hw.xf.busy = false → s.hw.sp.val = 0 →
    s.hw.tmoRounds = 0#16 →
    (∀ c : Chan, c.val < s.cfg.nch → (s.chan c).chEn = true → (s.chan c).st = SEARCH ∨ (s.chan c).st = ACCUM) →
    s.env.stim = List.replicate s.cfg.nch .visit ++ turns →
    ∃ t, Sys2Proof.core.run s.cfg.nch s = .next t
      ∧ t.hw.sp.val = 0 ∧ t.hw.round = s.hw.round + 1#32 ∧ t.env.stim = turns
      ∧ ∀ c : Chan,
          if c.val < s.cfg.nch ∧ (s.chan c).chEn = true ∧ (s.chan c).st = ACCUM then
            (t.chan c).age.toNat = min ((s.chan c).age.toNat + 1) 0xFFFF
            ∧ t.chan c = { s.chan c with age := (t.chan c).age }
          else t.chan c = s.chan c

/-! ## The transform unit and the output -/

/-- XF_ACCEPT (R203): with room in OUTQ, an accepted sample's point is pushed behind the records there, and the sample
advances; everything else stays. The words of the record are `PointMatchesComposedFunction`'s, over the configuration's ROM, by
default the model's own table (log 11). -/
def Obligations.XfAcceptPushesPoint : Prop :=
  ∀ s : State, s.hw.xf.busy = true → Accepted s.hw.xf s.hw.xf.k → s.hw.outq.length < s.cfg.outDepth →
    RowOf s.cfg 0x7000 0 0#32 .xfAccept
    ∧ ∃ t, exec .xfAccept s = .next t ∧ SampleAdvanced s.hw.xf t.hw.xf
      ∧ t.hw.outq = s.hw.outq ++ [s.hw.xf.point s.cfg.sine s.hw.xf.k]
      ∧ t = { s with hw := { s.hw with outq := t.hw.outq, xf := t.hw.xf } }

/-- XF_REJECT (R204): RangeRejection of the packet's channel and the sample is raised, CNT_REJ of that channel counts
while DIAG_EN = 1, nothing is pushed, and the sample advances, whether or not OUTQ is full; everything else stays. -/
def Obligations.XfRejectDropsSample : Prop :=
  ∀ s : State, s.hw.xf.busy = true → ¬Accepted s.hw.xf s.hw.xf.k →
    RowOf s.cfg 0x6000 0 0#32 .xfReject
    ∧ ∃ t, exec .xfReject s = .next t ∧ SampleAdvanced s.hw.xf t.hw.xf
      ∧ t = { s with
          hw := { s.hw with chans := t.hw.chans, xf := t.hw.xf }
          env := { s.env with raised := .rangeRejection s.hw.xf.ch s.hw.xf.k } }
      ∧ (∀ d : Chan, d ≠ s.hw.xf.ch → t.chan d = s.chan d)
      ∧ Counted s.hw.ctrl.diagEn (s.chan s.hw.xf.ch).cntRej (t.chan s.hw.xf.ch).cntRej
      ∧ t.chan s.hw.xf.ch = { s.chan s.hw.xf.ch with cntRej := (t.chan s.hw.xf.ch).cntRej }

/-- With room in OUTQ for all its points, a dispatched packet takes exactly 12 XF steps (R202), and its accepted points enter
OUTQ in sample order (20_memory.md R81), each rejected sample counted once: 12 XF turns from sample 0 leave the unit idle
and OUTQ longer by the points of the accepted samples. Where points have to wait for POPs in between (R201), this says
nothing. -/
def Obligations.PacketTakesTwelveXfSteps : Prop :=
  ∀ (s : State) (turns : List Stimulus),
    s.modelFault = none → s.hw.xf.busy = true → s.hw.xf.k.val = 0 →
    s.hw.outq.length + ((List.finRange NSAMP).filter fun k =>
      acceptSample s.hw.xf.minDist s.hw.xf.maxDist s.hw.xf.minInt s.hw.xf.dist[k] s.hw.xf.inten[k]).length
        ≤ s.cfg.outDepth →
    s.env.stim = List.replicate NSAMP .xf ++ turns →
    ∃ t, Sys2Proof.core.run NSAMP s = .next t
      ∧ t.hw.xf = { s.hw.xf with busy := false, k := 0 } ∧ t.env.stim = turns
      ∧ t.hw.outq = s.hw.outq
          ++ (((List.finRange NSAMP).filter fun k =>
                acceptSample s.hw.xf.minDist s.hw.xf.maxDist s.hw.xf.minInt s.hw.xf.dist[k]
                  s.hw.xf.inten[k]).map fun k => s.hw.xf.point s.cfg.sine k)
      ∧ (t.chan s.hw.xf.ch).cntRej = (s.chan s.hw.xf.ch).cntRej
          + (if s.hw.ctrl.diagEn then
              BitVec.ofNat 32 (NSAMP + s.hw.outq.length - t.hw.outq.length) else 0#32)
      ∧ ∀ d : Chan, d ≠ s.hw.xf.ch → t.chan d = s.chan d

/-- OUT_POP (R205): the head of OUTQ is delivered whole, and everything else stays. -/
def Obligations.OutPopDeliversHead : Prop :=
  ∀ (s : State) (r : Record) (rest : List Record), s.hw.outq = r :: rest →
    RowOf s.cfg 0x8000 0 0#32 .outPop
    ∧ exec .outPop s = .next
        { s with hw := { s.hw with outq := rest }, env := { s.env with delivered := s.env.delivered ++ [r] } }

/-- Records leave in the order they entered (20_memory.md R81, R209): n POP turns deliver the n oldest records in
order. -/
def Obligations.PopsDeliverInOrder : Prop :=
  ∀ (s : State) (n : Nat) (turns : List Stimulus),
    s.modelFault = none → n ≤ s.hw.outq.length → s.env.stim = List.replicate n .pop ++ turns →
    ∃ t, Sys2Proof.core.run n s = .next t
      ∧ t.env.delivered = s.env.delivered ++ s.hw.outq.take n ∧ t.hw = { s.hw with outq := s.hw.outq.drop n }

/-- Records leave OUTQ only by an output pop and enter it only by an accepting transform step; RESET empties it
(10_state.md R26, R290). An output pop takes the head and delivers it, and on an empty OUTQ does nothing; an accepting
step puts one record behind the others, or does nothing where the state has no such step (log 2). No other step changes
OUTQ, and no step but an output pop delivers anything. -/
def Obligations.OnlyAcceptAndPopMoveRecords : Prop :=
  ∀ (i : Instr) (s t : State), exec i s = .next t →
    (i = .outPop → t.hw.outq = s.hw.outq.tail ∧ t.env.delivered = s.env.delivered ++ s.hw.outq.take 1)
    ∧ (i = .xfAccept → t.hw.outq = s.hw.outq ∨ ∃ r, t.hw.outq = s.hw.outq ++ [r])
    ∧ (i = .reset → t.hw.outq = [])
    ∧ (i ≠ .xfAccept → i ≠ .outPop → i ≠ .reset → t.hw.outq = s.hw.outq)
    ∧ (i ≠ .outPop → t.env.delivered = s.env.delivered)

/-- The transform latches change only at a dispatch or RESET (10_state.md R25, 20_memory.md R84): on every other step the
packet in the unit keeps the fields and the configuration latched at its dispatch. -/
def Obligations.LatchesChangeOnlyAtDispatch : Prop :=
  ∀ (i : Instr) (s t : State), exec i s = .next t → i ≠ .visitDispatch → i ≠ .reset →
    t.hw.xf = { s.hw.xf with busy := t.hw.xf.busy, k := t.hw.xf.k }

/-- The counters hold while CTRL.DIAG_EN = 0 (60_exceptions.md R266, 10_state.md R42): no instruction but a write of a
counter and RESET changes one. -/
def Obligations.CountersHoldWithoutDiagnostics : Prop :=
  ∀ (i : Instr) (s t : State), exec i s = .next t → s.hw.ctrl.diagEn = false → i ≠ .reset →
    (∀ c d, i ≠ .wrCntOk c d ∧ i ≠ .wrCntCrc c d ∧ i ≠ .wrCntTmo c d ∧ i ≠ .wrCntRej c d) →
    SameCounters s.hw t.hw

/-! ## Reset and the invariants -/

/-- RESET (R290): whatever the state, every piece of block state the spec gives a reset value takes it, CFG fields
included, and the bytes in the environment's queues stay. R290 speaks of the channels below NCH: that the entries at NCH
and above take the same values is the model's filler (log 15). That the rest of the environment stays too is the model's
choice (log 7), as is that the configuration stands beside the block and stays (log 9). -/
def Obligations.ResetGivesResetValues : Prop :=
  ∀ s : State, RowOf s.cfg 0xA000 0 0#32 .reset ∧ ∃ t, exec .reset s = .next t ∧ t.env = s.env ∧ t.cfg = s.cfg
    ∧ (∀ c : Chan,
        (t.chan c).st = SEARCH ∧ (t.chan c).cur.toNat = 0 ∧ (t.chan c).crc = 0x00#8 ∧ (t.chan c).age = 0#16
        ∧ (t.chan c).devId.toNat = c.val ∧ (t.chan c).chEn = true
        ∧ (t.chan c).angOff.toNat = 9000 * c.val % 36000
        ∧ (t.chan c).posX = 0#16 ∧ (t.chan c).posY = 0#16
        ∧ (t.chan c).cntOk = 0#32 ∧ (t.chan c).cntCrc = 0#32
        ∧ (t.chan c).cntTmo = 0#32 ∧ (t.chan c).cntRej = 0#32)
    ∧ t.hw.sp.val = 0 ∧ t.hw.round = 0#32 ∧ t.hw.xf.busy = false ∧ t.hw.xf.k.val = 0 ∧ t.hw.outq = []
    ∧ t.hw.ctrl.en = false ∧ t.hw.ctrl.wrapFix = true ∧ t.hw.ctrl.posEn = false ∧ t.hw.ctrl.diagEn = false
    ∧ t.hw.minDist = 100#16 ∧ t.hw.maxDist = 2500#16 ∧ t.hw.minInt = 150#8 ∧ t.hw.tmoRounds = 0#16

/-- The reset state satisfies the invariant (70_reset_and_hazards.md R293), in every legal configuration, and its counters
account for the samples dispatched so far, none. The configuration of this hardware is a legal one (00_scope.md R7). The
clauses over the entries of channels at NCH and above hold by the model's filler (log 15), and the canonical form of the
buffers is the model's representation of their bytes (log 5). -/
def Obligations.ResetStateMeetsInvariants : Prop :=
  hardware.Legal ∧ ∀ cfg : Config, cfg.Legal → (State.resetWith cfg).Inv ∧ Accounted (State.resetWith cfg)

/-- Every step keeps the invariant: the decoder invariants of 10_state.md R23, the packet buffers' canonical form, the
scheduler pointer below NCH, the latched channel below NCH while the transform unit is busy, OUTQ within its depth with
records laid out as R100 says, and xk = 0 while the transform unit is idle. No step changes the configuration, which is no
state of the block (log 9). For the entries of channels at NCH and above, which do not exist, RESET meets the invariant by
the model's filler (log 15); the canonical form is the model's representation of a buffer's bytes (log 5). -/
def Obligations.StepKeepsInvariant : Prop :=
  ∀ s t : State, s.Inv → step s = .next t → t.Inv ∧ t.cfg = s.cfg

/-- The accounting identity (60_exceptions.md R268), at every moment and modulo 2^32: while DIAG_EN = 1, every step but
RESET, a write of CNT_OK or CNT_REJ and a write that clears a CH_EN keeps twelve samples for each dispatched packet
accounted for, as points, rejections or samples still to be taken. -/
def Obligations.StepKeepsAccounting : Prop :=
  ∀ s t : State, Accounted s → step s = .next t → s.hw.ctrl.diagEn = true →
    s.nextInstr ≠ some .reset →
    (∀ c d, s.nextInstr ≠ some (.wrCntOk c d) ∧ s.nextInstr ≠ some (.wrCntRej c d)) →
    (∀ c d, s.nextInstr = some (.wrChCfg c d) → s.hw.ctrl.en = true ∨ d.getLsbD 8 = true) →
    Accounted t

/-! ## The functions -/

/-- The words of a point record are those of the composed per-sample function (R172, R169), for every ROM whose entries
are at most 16384 (R163). -/
def Obligations.PointMatchesComposedFunction : Prop :=
  ∀ (rom : Nat → Nat) (x : Xform) (k : SampleIx), (∀ j, j ≤ 16384 → rom j ≤ 16384) →
    let r := x.point rom k
    r.w0.toNat = x.dist[k].toNat * 2 ^ 16 + x.inten[k].toNat * 2 ^ 8 + x.dev.toNat
    ∧ r.w1.toNat = x.ch.val * 2 ^ 20 + k.val * 2 ^ 16 + angleOf x k.val
    ∧ r.w2.toInt = xOf rom x k
    ∧ r.w3.toInt = yOf rom x k

/-- X and Y lie in -98303..98302 (R168), and in -65535..65535 without the position offset (R165), for every ROM whose
entries are at most 16384. -/
def Obligations.CoordinatesStayInRange : Prop :=
  ∀ (rom : Nat → Nat) (x : Xform) (k : SampleIx), (∀ j, j ≤ 16384 → rom j ≤ 16384) →
    -98303 ≤ (x.point rom k).w2.toInt ∧ (x.point rom k).w2.toInt ≤ 98302
    ∧ -98303 ≤ (x.point rom k).w3.toInt ∧ (x.point rom k).w3.toInt ≤ 98302
    ∧ (x.posEn = false →
        -65535 ≤ (x.point rom k).w2.toInt ∧ (x.point rom k).w2.toInt ≤ 65535
        ∧ -65535 ≤ (x.point rom k).w3.toInt ∧ (x.point rom k).w3.toInt ≤ 65535)

/-- The phase is the angle rounded to the nearest BAM16 unit, halves upwards, and acts modulo 360 degrees (R158): its
two formulas agree, adding 36000 centidegrees changes nothing, and 90 degrees is exactly 0x4000. -/
def Obligations.PhaseRoundsToNearestUnit : Prop :=
  (∀ tot : Nat,
    (phase tot).toNat = (tot * 65536 + 198000) / 396000 % 65536
    ∧ phase (tot + 11 * 36000) = phase tot
    ∧ ∃ turns : Nat,
        2 * 396000 * ((phase tot).toNat + 65536 * turns) ≤ 2 * 65536 * tot + 396000
        ∧ 2 * 65536 * tot < 2 * 396000 * ((phase tot).toNat + 65536 * turns) + 396000)
  ∧ phase 0 = 0#16 ∧ phase 99000 = 0x4000#16

/-- The interpolation (R154, R156, R157): the end angle after the wrap fix lies in 0..101535; the numerator is 11 times
the start angle at sample 0 and 11 times the adjusted end angle at sample 11, linear between them, and lies in
0..1116885; with 11 times the mounting offset it lies in 0..1837770. -/
def Obligations.InterpolationIsExact : Prop :=
  ∀ (k : SampleIx) (xs xe off : Half) (wrap : Bool),
    let e := endAdj xs xe wrap
    e = (if wrap = true ∧ xe.toNat < xs.toNat then xe.toNat + 36000 else xe.toNat) ∧ e ≤ 101535
    ∧ interp k xs e = (11 - k.val) * xs.toNat + k.val * e
    ∧ (interp k xs e : ℤ) = 11 * xs.toNat + k.val * ((e : ℤ) - xs.toNat)
    ∧ interp 0 xs e = 11 * xs.toNat ∧ interp 11 xs e = 11 * e ∧ interp k xs e ≤ 1116885
    ∧ offsetAngle (interp k xs e) off = interp k xs e + 11 * off.toNat
    ∧ offsetAngle (interp k xs e) off ≤ 1837770

/-- At the four quarter turns the sine and cosine are exact for every ROM with TRIG_Q[0] = 0 and TRIG_Q[16384] = 16384,
and for every ROM that also is non-decreasing they lie in -16384..16384 (R160, R164 a and b). -/
def Obligations.TrigQuarterTurnsAndRange : Prop :=
  ∀ rom : Nat → Nat, rom 0 = 0 → rom 16384 = 16384 →
    trig rom 0x0000#16 = { cos := 16384, sin := 0 }
    ∧ trig rom 0x4000#16 = { cos := 0, sin := 16384 }
    ∧ trig rom 0x8000#16 = { cos := -16384, sin := 0 }
    ∧ trig rom 0xC000#16 = { cos := 0, sin := -16384 }
    ∧ ((∀ i j, i ≤ j → j ≤ 16384 → rom i ≤ rom j) →
        ∀ p : Half, -16384 ≤ (trig rom p).cos ∧ (trig rom p).cos ≤ 16384
          ∧ -16384 ≤ (trig rom p).sin ∧ (trig rom p).sin ≤ 16384)

/-- The error bound against the source's real-valued transform (R170, R151), for every ROM that meets the accuracy
assumption R164 (c): without the position offset, X and Y are within d*(4.80e-5 + 3.06e-5) + 0.5 millimetres of
-cos(alpha)*d and sin(alpha)*d, where alpha is the adjusted angle in real arithmetic with the end angle after the wrap
fix (R155). The entries of the ROM are at most 16384 (R163). -/
def Obligations.PointsAreAccurate : Prop :=
  ∀ (rom : Nat → Nat) (x : Xform) (k : SampleIx), RomAccurate rom → (∀ j, j ≤ 16384 → rom j ≤ 16384) → x.posEn = false →
    let d : ℝ := x.dist[k].toNat
    let theta : ℝ :=
      ((x.startAng.toNat : ℝ) + k.val * ((endAngleCd x : ℝ) - x.startAng.toNat) / 11 + x.off.toNat) / 100
    let alpha : ℝ := (theta - 90) * (Real.pi / 180)
    |((x.point rom k).w2.toInt : ℝ) - -(Real.cos alpha) * d| ≤ d * (4.80e-5 + 3.06e-5) + 0.5
    ∧ |((x.point rom k).w3.toInt : ℝ) - Real.sin alpha * d| ≤ d * (4.80e-5 + 3.06e-5) + 0.5

/-- The default ROM has TRIG_Q[0] = 0 and TRIG_Q[16384] = 16384, is non-decreasing (R164 a and b), holds values of
0..16384, and agrees with the entries R163 lists. It is the model's own table (log 11), and this hardware's. -/
def Obligations.DefaultRomProperties : Prop :=
  let q (j : Nat) : Nat := hardware.sine j
  LegalRom hardware.sine ∧ (∀ j, j ≤ 16384 → q j ≤ 16384)
  ∧ q 1 = 2 ∧ q 2 = 3 ∧ q 3 = 5 ∧ q 91 = 143 ∧ q 182 = 286 ∧ q 1024 = 1606 ∧ q 2048 = 3196 ∧ q 4096 = 6270
  ∧ q 5461 = 8192 ∧ q 8192 = 11585 ∧ q 10923 = 14189 ∧ q 12288 = 15137 ∧ q 14336 = 16069 ∧ q 16383 = 16384

/-- The default ROM, the model's own table (log 11) and this hardware's, meets the accuracy assumption R164 (c): every
entry is within 1/2 of 16384 * sin(2*pi*j/65536). -/
def Obligations.DefaultRomIsAccurate : Prop := RomAccurate hardware.sine

/-- The default CRC table, listed, is the one its generator gives (R121, from general knowledge, not in source; log 10),
and this hardware's; with it a CRC is seeded at 0 and takes one byte at a time (R122), and for every table with entry 0
zero a packet with its own CRC behind it has the CRC 0 (R126). -/
def Obligations.CrcTableAndSelfCheck : Prop :=
  (∀ n : Byte, hardware.crc n = crcEntry n)
  ∧ ∀ table : Byte → Byte,
      crcOf table [] = 0x00#8
      ∧ (∀ (p : List Byte) (b : Byte), crcOf table (p ++ [b]) = table (crcOf table p ^^^ b))
      ∧ (table 0x00#8 = 0x00#8 → ∀ p : List Byte, crcOf table (p ++ [crcOf table p]) = 0x00#8)

/-- The filter (R180, R183, R184): strictly above the minimum distance, strictly below the maximum, strictly above the
minimum intensity; a distance of 0 never passes; an empty window or a minimum intensity of 255 passes nothing. -/
def Obligations.FilterAcceptsStrictlyInside : Prop :=
  ∀ (lo hi d : Half) (least i : Byte),
    (acceptSample lo hi least d i = true ↔
      lo.toNat < d.toNat ∧ d.toNat < hi.toNat ∧ least.toNat < i.toNat)
    ∧ acceptSample lo hi least 0#16 i = false
    ∧ acceptSample lo hi least 0xFFFF#16 i = false
    ∧ (hi.toNat ≤ lo.toNat + 1 → acceptSample lo hi least d i = false)
    ∧ acceptSample lo hi 0xFF#8 d i = false
end

