-- ==== Sys2Proof/Laws/Memory.lean ====
section
/-!
SUPPORT. The laws of the packet-buffer bytes: a read after a write, the canonical form, and equality of buffers.
-/

namespace Sys2Proof.Machine

@[simp] theorem Memory.read_nil (i : Nat) : Memory.read [] i = 0x00#8 := rfl

theorem Memory.read_cons (cell : Host.Cell) (m : Memory) (i : Nat) :
    Memory.read (cell :: m) i = if cell.1 = i then cell.2 else Memory.read m i := rfl

/-- Without the cells of index i, index i is unlisted and the other indices read as before. -/
theorem Memory.read_filter (m : Memory) (i a : Nat) :
    Memory.read (m.filter fun cell => cell.1 != i) a = if a = i then 0x00#8 else m.read a := by
  induction m with
  | nil => simp
  | cons cell rest ih =>
    by_cases h : cell.1 = i
    · rw [List.filter_cons_of_neg (by simp [h]), ih, read_cons]
      by_cases ha : a = i
      · simp [ha]
      · simp [ha, h, Ne.symm ha]
    · rw [List.filter_cons_of_pos (by simp [h]), read_cons, ih, read_cons]
      by_cases ha : a = i
      · subst ha; simp [h]
      · simp [ha]

/-- A cell put in where its index is unlisted is what that index reads. -/
theorem Memory.read_insert (m : Memory) (i a : Nat) (v : Byte) (h : ∀ cell ∈ m, cell.1 ≠ i) :
    Memory.read (Memory.insert i v m) a = if a = i then v else m.read a := by
  induction m with
  | nil =>
    simp only [insert, read_cons, read_nil]
    by_cases ha : a = i
    · simp [ha]
    · simp [ha, Ne.symm ha]
  | cons cell rest ih =>
    obtain ⟨b, w⟩ := cell
    have hb : b ≠ i := h (b, w) (by simp)
    rw [insert]
    split
    · rw [read_cons]
      by_cases ha : a = i
      · simp [ha]
      · simp [ha, Ne.symm ha]
    · rw [read_cons, ih fun cell hc => h cell (by simp [hc]), read_cons]
      by_cases ha : a = i
      · subst ha; simp [hb]
      · simp [ha]

/-- A byte reads as it was last written, and a write of one index leaves every other index as it was. -/
theorem Memory.read_write (m : Memory) (i a : Nat) (v : Byte) :
    (m.write i v).read a = if a = i then v else m.read a := by
  unfold write
  split
  · rename_i hv; rw [read_filter, hv]
  · rw [read_insert _ _ _ _ (by simp), read_filter]
    split <;> rfl

@[simp] theorem Memory.read_write_same (m : Memory) (i : Nat) (v : Byte) : (m.write i v).read i = v := by
  simp [read_write]

theorem Memory.read_write_other (m : Memory) {i a : Nat} (v : Byte) (h : a ≠ i) :
    (m.write i v).read a = m.read a := by
  simp [read_write, h]

/-! ## The canonical form -/

theorem Memory.wf_nil (len : Nat) : Memory.wf [] len := by simp [wf]

theorem Memory.mem_insert (m : Memory) (i : Nat) (v : Byte) (cell : Host.Cell) :
    cell ∈ Memory.insert i v m ↔ cell = (i, v) ∨ cell ∈ m := by
  induction m with
  | nil => simp [insert]
  | cons head rest ih =>
    obtain ⟨b, w⟩ := head
    rw [insert]
    split
    · simp
    · simp only [List.mem_cons, ih]; tauto

theorem Memory.wf_filter {m : Memory} {len : Nat} (i : Nat) (h : m.wf len) :
    Memory.wf (m.filter fun cell => cell.1 != i) len :=
  ⟨h.1.filter _, fun cell hc => h.2 cell (List.mem_filter.mp hc).1⟩

theorem Memory.wf_insert {m : Memory} {len i : Nat} {v : Byte} (h : m.wf len) (hi : i < len) (hv : v ≠ 0x00#8)
    (hfree : ∀ cell ∈ m, cell.1 ≠ i) : Memory.wf (Memory.insert i v m) len := by
  refine ⟨?_, fun cell hc => ?_⟩
  · obtain ⟨hp, -⟩ := h
    induction m with
    | nil => simp [insert]
    | cons head rest ih =>
      obtain ⟨b, w⟩ := head
      rw [List.pairwise_cons] at hp
      have hb : b ≠ i := hfree (b, w) (by simp)
      rw [insert]
      split
      · rename_i hlt
        refine List.pairwise_cons.mpr ⟨fun cell hc => ?_, List.pairwise_cons.mpr hp⟩
        rcases List.mem_cons.mp hc with rfl | hc
        · exact hlt
        · exact lt_trans hlt (hp.1 cell hc)
      · refine List.pairwise_cons.mpr ⟨fun cell hc => ?_, ih (fun cell hc => hfree cell (by simp [hc])) hp.2⟩
        rcases (mem_insert _ _ _ _).mp hc with rfl | hc
        · show b < i; omega
        · exact hp.1 cell hc
  · rcases (mem_insert _ _ _ _).mp hc with rfl | hc
    · exact ⟨hi, hv⟩
    · exact h.2 cell hc

/-- Writing a byte of the packet buffer keeps the canonical form. -/
theorem Memory.wf_write {m : Memory} {len i : Nat} (v : Byte) (h : m.wf len) (hi : i < len) : (m.write i v).wf len := by
  unfold write
  split
  · exact wf_filter i h
  · rename_i hv; exact wf_insert (wf_filter i h) hi hv (by simp)

/-- A listed cell of a canonical buffer is what its index reads. -/
theorem Memory.read_of_mem {m : Memory} {len : Nat} (h : m.wf len) (cell : Host.Cell) (hc : cell ∈ m) : m.read cell.1 = cell.2 := by
  obtain ⟨hp, -⟩ := h
  induction m with
  | nil => simp at hc
  | cons head rest ih =>
    rw [List.pairwise_cons] at hp
    rw [read_cons]
    rcases List.mem_cons.mp hc with rfl | hc
    · simp
    · rw [if_neg (hp.1 cell hc).ne, ih hc hp.2]

/-- Equal buffers are equal data: two canonical buffers that read alike at every index are the same list. -/
theorem Memory.eq_of_read_eq {m n : Memory} {len : Nat} (hm : m.wf len) (hn : n.wf len) (h : ∀ i, m.read i = n.read i) : m = n := by
  have listed (p q : Memory) (hp : p.wf len) (hq : q.wf len) (h : ∀ i, p.read i = q.read i) : ∀ cell ∈ p, cell ∈ q := by
    intro cell hc
    have hr : q.read cell.1 = cell.2 := by rw [← h, read_of_mem hp cell hc]
    have hz := (hp.2 cell hc).2
    clear hp hc h hq
    induction q with
    | nil => simp only [read_nil] at hr; exact absurd hr.symm hz
    | cons head rest ih =>
      rw [read_cons] at hr
      split at hr
      · rename_i he; exact List.mem_cons.mpr (.inl (Prod.ext he.symm hr.symm))
      · exact List.mem_cons.mpr (.inr (ih hr))
  have hnodup (p : Memory) (hp : p.wf len) : p.Nodup := hp.1.imp fun {x y} hxy he => by simp [he] at hxy
  have hperm : m.Perm n := (List.perm_ext_iff_of_nodup (hnodup m hm) (hnodup n hn)).mpr fun cell =>
    ⟨listed m n hm hn h cell, listed n m hn hm (fun i => (h i).symm) cell⟩
  exact hperm.eq_of_pairwise (fun x y _ _ hxy hyx => by have : x.1 < y.1 := hxy; have : y.1 < x.1 := hyx; omega)
    hm.1 hn.1

/-! ## The leading bytes -/

@[simp] theorem Memory.length_first (m : Memory) (n : Nat) : (m.first n).length = n := by simp [first]

theorem Memory.first_succ (m : Memory) (n : Nat) : m.first (n + 1) = m.first n ++ [m.read n] := by
  simp [first, List.range_succ]

/-- A write at or past index n leaves the first n bytes as they were. -/
theorem Memory.first_write (m : Memory) {n i : Nat} (v : Byte) (h : n ≤ i) : (m.write i v).first n = m.first n := by
  refine List.map_congr_left fun a ha => read_write_other m v ?_
  have := List.mem_range.mp ha
  omega

/-- The first n + 1 bytes after a write at index n. -/
theorem Memory.first_succ_write (m : Memory) (n : Nat) (v : Byte) :
    (m.write n v).first (n + 1) = m.first n ++ [v] := by
  rw [first_succ, first_write m v le_rfl, read_write_same]

end Sys2Proof.Machine
end

