-- ==== Sys2Proof/Laws/State.lean ====
section
/-!
SUPPORT. One lemma per field per update: what each named update of the state does to each field, so that no proof unfolds
a record update. The reads of one channel after an update of another are in Laws/Ops.lean.
-/

namespace Sys2Proof.Machine

/-! ## `Channel.toSearch` -/

@[simp] theorem Channel.toSearch_st (ch : Channel) : (ch.toSearch).st = SEARCH := rfl
@[simp] theorem Channel.toSearch_cur (ch : Channel) : (ch.toSearch).cur = 0#7 := rfl
@[simp] theorem Channel.toSearch_crc (ch : Channel) : (ch.toSearch).crc = 0x00#8 := rfl
@[simp] theorem Channel.toSearch_age (ch : Channel) : (ch.toSearch).age = 0#16 := rfl
@[simp] theorem Channel.toSearch_buf (ch : Channel) : (ch.toSearch).buf = ch.buf := rfl
@[simp] theorem Channel.toSearch_devId (ch : Channel) : (ch.toSearch).devId = ch.devId := rfl
@[simp] theorem Channel.toSearch_chEn (ch : Channel) : (ch.toSearch).chEn = ch.chEn := rfl
@[simp] theorem Channel.toSearch_angOff (ch : Channel) : (ch.toSearch).angOff = ch.angOff := rfl
@[simp] theorem Channel.toSearch_posX (ch : Channel) : (ch.toSearch).posX = ch.posX := rfl
@[simp] theorem Channel.toSearch_posY (ch : Channel) : (ch.toSearch).posY = ch.posY := rfl
@[simp] theorem Channel.toSearch_cntOk (ch : Channel) : (ch.toSearch).cntOk = ch.cntOk := rfl
@[simp] theorem Channel.toSearch_cntCrc (ch : Channel) : (ch.toSearch).cntCrc = ch.cntCrc := rfl
@[simp] theorem Channel.toSearch_cntTmo (ch : Channel) : (ch.toSearch).cntTmo = ch.cntTmo := rfl
@[simp] theorem Channel.toSearch_cntRej (ch : Channel) : (ch.toSearch).cntRej = ch.cntRej := rfl

/-! ## `Block.setChan` -/

@[simp] theorem Block.setChan_chans (b : Block) (c : Chan) (ch : Channel) :
    (b.setChan c ch).chans = b.chans.set c ch := rfl
@[simp] theorem Block.setChan_sp (b : Block) (c : Chan) (ch : Channel) : (b.setChan c ch).sp = b.sp := rfl
@[simp] theorem Block.setChan_round (b : Block) (c : Chan) (ch : Channel) : (b.setChan c ch).round = b.round := rfl
@[simp] theorem Block.setChan_xf (b : Block) (c : Chan) (ch : Channel) : (b.setChan c ch).xf = b.xf := rfl
@[simp] theorem Block.setChan_outq (b : Block) (c : Chan) (ch : Channel) : (b.setChan c ch).outq = b.outq := rfl
@[simp] theorem Block.setChan_ctrl (b : Block) (c : Chan) (ch : Channel) : (b.setChan c ch).ctrl = b.ctrl := rfl
@[simp] theorem Block.setChan_minDist (b : Block) (c : Chan) (ch : Channel) :
    (b.setChan c ch).minDist = b.minDist := rfl
@[simp] theorem Block.setChan_maxDist (b : Block) (c : Chan) (ch : Channel) :
    (b.setChan c ch).maxDist = b.maxDist := rfl
@[simp] theorem Block.setChan_minInt (b : Block) (c : Chan) (ch : Channel) : (b.setChan c ch).minInt = b.minInt := rfl
@[simp] theorem Block.setChan_tmoRounds (b : Block) (c : Chan) (ch : Channel) :
    (b.setChan c ch).tmoRounds = b.tmoRounds := rfl

/-! ## `Block.push` -/

@[simp] theorem Block.push_chans (b : Block) (r : Record) : (b.push r).chans = b.chans := rfl
@[simp] theorem Block.push_sp (b : Block) (r : Record) : (b.push r).sp = b.sp := rfl
@[simp] theorem Block.push_round (b : Block) (r : Record) : (b.push r).round = b.round := rfl
@[simp] theorem Block.push_xf (b : Block) (r : Record) : (b.push r).xf = b.xf := rfl
@[simp] theorem Block.push_outq (b : Block) (r : Record) : (b.push r).outq = b.outq ++ [r] := rfl
@[simp] theorem Block.push_ctrl (b : Block) (r : Record) : (b.push r).ctrl = b.ctrl := rfl
@[simp] theorem Block.push_minDist (b : Block) (r : Record) : (b.push r).minDist = b.minDist := rfl
@[simp] theorem Block.push_maxDist (b : Block) (r : Record) : (b.push r).maxDist = b.maxDist := rfl
@[simp] theorem Block.push_minInt (b : Block) (r : Record) : (b.push r).minInt = b.minInt := rfl
@[simp] theorem Block.push_tmoRounds (b : Block) (r : Record) : (b.push r).tmoRounds = b.tmoRounds := rfl

/-! ## `Block.advancePointer` -/

@[simp] theorem Block.advancePointer_chans (b : Block) (nch : Nat) : (b.advancePointer nch).chans = b.chans := rfl
@[simp] theorem Block.advancePointer_sp (b : Block) (nch : Nat) : (b.advancePointer nch).sp = nextChan nch b.sp := rfl
@[simp] theorem Block.advancePointer_round (b : Block) (nch : Nat) :
    (b.advancePointer nch).round = (if (nextChan nch b.sp).val = 0 then b.round + 1#32 else b.round) := rfl
@[simp] theorem Block.advancePointer_xf (b : Block) (nch : Nat) : (b.advancePointer nch).xf = b.xf := rfl
@[simp] theorem Block.advancePointer_outq (b : Block) (nch : Nat) : (b.advancePointer nch).outq = b.outq := rfl
@[simp] theorem Block.advancePointer_ctrl (b : Block) (nch : Nat) : (b.advancePointer nch).ctrl = b.ctrl := rfl
@[simp] theorem Block.advancePointer_minDist (b : Block) (nch : Nat) :
    (b.advancePointer nch).minDist = b.minDist := rfl
@[simp] theorem Block.advancePointer_maxDist (b : Block) (nch : Nat) :
    (b.advancePointer nch).maxDist = b.maxDist := rfl
@[simp] theorem Block.advancePointer_minInt (b : Block) (nch : Nat) : (b.advancePointer nch).minInt = b.minInt := rfl
@[simp] theorem Block.advancePointer_tmoRounds (b : Block) (nch : Nat) :
    (b.advancePointer nch).tmoRounds = b.tmoRounds := rfl

/-! ## `Block.setXf` -/

@[simp] theorem Block.setXf_chans (b : Block) (x : Xform) : (b.setXf x).chans = b.chans := rfl
@[simp] theorem Block.setXf_sp (b : Block) (x : Xform) : (b.setXf x).sp = b.sp := rfl
@[simp] theorem Block.setXf_round (b : Block) (x : Xform) : (b.setXf x).round = b.round := rfl
@[simp] theorem Block.setXf_xf (b : Block) (x : Xform) : (b.setXf x).xf = x := rfl
@[simp] theorem Block.setXf_outq (b : Block) (x : Xform) : (b.setXf x).outq = b.outq := rfl
@[simp] theorem Block.setXf_ctrl (b : Block) (x : Xform) : (b.setXf x).ctrl = b.ctrl := rfl
@[simp] theorem Block.setXf_minDist (b : Block) (x : Xform) : (b.setXf x).minDist = b.minDist := rfl
@[simp] theorem Block.setXf_maxDist (b : Block) (x : Xform) : (b.setXf x).maxDist = b.maxDist := rfl
@[simp] theorem Block.setXf_minInt (b : Block) (x : Xform) : (b.setXf x).minInt = b.minInt := rfl
@[simp] theorem Block.setXf_tmoRounds (b : Block) (x : Xform) : (b.setXf x).tmoRounds = b.tmoRounds := rfl

/-! ## `Block.latch` -/

@[simp] theorem Block.latch_busy (b : Block) (c : Chan) : (b.latch c).busy = true := rfl
@[simp] theorem Block.latch_k (b : Block) (c : Chan) : (b.latch c).k = 0 := rfl
@[simp] theorem Block.latch_ch (b : Block) (c : Chan) : (b.latch c).ch = c := rfl
@[simp] theorem Block.latch_dev (b : Block) (c : Chan) : (b.latch c).dev = (b.chan c).devId := rfl
@[simp] theorem Block.latch_startAng (b : Block) (c : Chan) : (b.latch c).startAng = (b.chan c).buf.startAngle := rfl
@[simp] theorem Block.latch_endAng (b : Block) (c : Chan) : (b.latch c).endAng = (b.chan c).buf.endAngle := rfl
@[simp] theorem Block.latch_dist (b : Block) (c : Chan) : (b.latch c).dist = (b.chan c).buf.distances := rfl
@[simp] theorem Block.latch_inten (b : Block) (c : Chan) : (b.latch c).inten = (b.chan c).buf.intensities := rfl
@[simp] theorem Block.latch_off (b : Block) (c : Chan) : (b.latch c).off = (b.chan c).angOff := rfl
@[simp] theorem Block.latch_px (b : Block) (c : Chan) : (b.latch c).px = (b.chan c).posX := rfl
@[simp] theorem Block.latch_py (b : Block) (c : Chan) : (b.latch c).py = (b.chan c).posY := rfl
@[simp] theorem Block.latch_minDist (b : Block) (c : Chan) : (b.latch c).minDist = b.minDist := rfl
@[simp] theorem Block.latch_maxDist (b : Block) (c : Chan) : (b.latch c).maxDist = b.maxDist := rfl
@[simp] theorem Block.latch_minInt (b : Block) (c : Chan) : (b.latch c).minInt = b.minInt := rfl
@[simp] theorem Block.latch_wrap (b : Block) (c : Chan) : (b.latch c).wrap = b.ctrl.wrapFix := rfl
@[simp] theorem Block.latch_posEn (b : Block) (c : Chan) : (b.latch c).posEn = b.ctrl.posEn := rfl

/-! ## `State.setChan` -/

@[simp] theorem State.setChan_cfg (s : State) (c : Chan) (ch : Channel) : (s.setChan c ch).cfg = s.cfg := rfl
@[simp] theorem State.setChan_hw (s : State) (c : Chan) (ch : Channel) :
    (s.setChan c ch).hw = s.hw.setChan c ch := rfl
@[simp] theorem State.setChan_env (s : State) (c : Chan) (ch : Channel) : (s.setChan c ch).env = s.env := rfl
@[simp] theorem State.setChan_modelFault (s : State) (c : Chan) (ch : Channel) :
    (s.setChan c ch).modelFault = s.modelFault := rfl

/-! ## `State.raise` -/

@[simp] theorem State.raise_cfg (s : State) (e : ErrorEvent) : (s.raise e).cfg = s.cfg := rfl
@[simp] theorem State.raise_hw (s : State) (e : ErrorEvent) : (s.raise e).hw = s.hw := rfl
@[simp] theorem State.raise_modelFault (s : State) (e : ErrorEvent) : (s.raise e).modelFault = s.modelFault := rfl
@[simp] theorem State.raise_env_inq (s : State) (e : ErrorEvent) : (s.raise e).env.inq = s.env.inq := rfl
@[simp] theorem State.raise_env_stim (s : State) (e : ErrorEvent) : (s.raise e).env.stim = s.env.stim := rfl
@[simp] theorem State.raise_env_rdata (s : State) (e : ErrorEvent) : (s.raise e).env.rdata = s.env.rdata := rfl
@[simp] theorem State.raise_env_delivered (s : State) (e : ErrorEvent) :
    (s.raise e).env.delivered = s.env.delivered := rfl
@[simp] theorem State.raise_env_raised (s : State) (e : ErrorEvent) : (s.raise e).env.raised = e := rfl

/-! ## `State.recordFault` -/

@[simp] theorem State.recordFault_cfg (s : State) (w : EventWord) : (s.recordFault w).cfg = s.cfg := rfl
@[simp] theorem State.recordFault_hw (s : State) (w : EventWord) : (s.recordFault w).hw = s.hw := rfl
@[simp] theorem State.recordFault_env (s : State) (w : EventWord) : (s.recordFault w).env = s.env := rfl
@[simp] theorem State.recordFault_modelFault (s : State) (w : EventWord) :
    (s.recordFault w).modelFault = some (s.modelFault.getD w) := rfl

/-! ## `State.takeByte` -/

@[simp] theorem State.takeByte_cfg (s : State) (c : Chan) : (s.takeByte c).cfg = s.cfg := rfl
@[simp] theorem State.takeByte_hw (s : State) (c : Chan) : (s.takeByte c).hw = s.hw := rfl
@[simp] theorem State.takeByte_modelFault (s : State) (c : Chan) : (s.takeByte c).modelFault = s.modelFault := rfl
@[simp] theorem State.takeByte_env_inq (s : State) (c : Chan) :
    (s.takeByte c).env.inq = s.env.inq.set c s.env.inq[c].tail := rfl
@[simp] theorem State.takeByte_env_stim (s : State) (c : Chan) : (s.takeByte c).env.stim = s.env.stim := rfl
@[simp] theorem State.takeByte_env_rdata (s : State) (c : Chan) : (s.takeByte c).env.rdata = s.env.rdata := rfl
@[simp] theorem State.takeByte_env_delivered (s : State) (c : Chan) :
    (s.takeByte c).env.delivered = s.env.delivered := rfl
@[simp] theorem State.takeByte_env_raised (s : State) (c : Chan) : (s.takeByte c).env.raised = s.env.raised := rfl

/-! ## `State.offerBytes` -/

@[simp] theorem State.offerBytes_cfg (s : State) (c : Chan) (bytes : List Byte) :
    (s.offerBytes c bytes).cfg = s.cfg := rfl
@[simp] theorem State.offerBytes_hw (s : State) (c : Chan) (bytes : List Byte) :
    (s.offerBytes c bytes).hw = s.hw := rfl
@[simp] theorem State.offerBytes_modelFault (s : State) (c : Chan) (bytes : List Byte) :
    (s.offerBytes c bytes).modelFault = s.modelFault := rfl
@[simp] theorem State.offerBytes_env_inq (s : State) (c : Chan) (bytes : List Byte) :
    (s.offerBytes c bytes).env.inq = s.env.inq.set c (s.env.inq[c] ++ bytes) := rfl
@[simp] theorem State.offerBytes_env_stim (s : State) (c : Chan) (bytes : List Byte) :
    (s.offerBytes c bytes).env.stim = s.env.stim := rfl
@[simp] theorem State.offerBytes_env_rdata (s : State) (c : Chan) (bytes : List Byte) :
    (s.offerBytes c bytes).env.rdata = s.env.rdata := rfl
@[simp] theorem State.offerBytes_env_delivered (s : State) (c : Chan) (bytes : List Byte) :
    (s.offerBytes c bytes).env.delivered = s.env.delivered := rfl
@[simp] theorem State.offerBytes_env_raised (s : State) (c : Chan) (bytes : List Byte) :
    (s.offerBytes c bytes).env.raised = s.env.raised := rfl

/-! ## `State.busReturn` -/

@[simp] theorem State.busReturn_cfg (s : State) (v : Word) : (s.busReturn v).cfg = s.cfg := rfl
@[simp] theorem State.busReturn_hw (s : State) (v : Word) : (s.busReturn v).hw = s.hw := rfl
@[simp] theorem State.busReturn_modelFault (s : State) (v : Word) : (s.busReturn v).modelFault = s.modelFault := rfl
@[simp] theorem State.busReturn_env_inq (s : State) (v : Word) : (s.busReturn v).env.inq = s.env.inq := rfl
@[simp] theorem State.busReturn_env_stim (s : State) (v : Word) : (s.busReturn v).env.stim = s.env.stim := rfl
@[simp] theorem State.busReturn_env_rdata (s : State) (v : Word) : (s.busReturn v).env.rdata = v := rfl
@[simp] theorem State.busReturn_env_delivered (s : State) (v : Word) :
    (s.busReturn v).env.delivered = s.env.delivered := rfl
@[simp] theorem State.busReturn_env_raised (s : State) (v : Word) : (s.busReturn v).env.raised = s.env.raised := rfl

/-! ## `State.endTurn` -/

@[simp] theorem State.endTurn_cfg (s : State) : (s.endTurn).cfg = s.cfg := rfl
@[simp] theorem State.endTurn_hw (s : State) : (s.endTurn).hw = s.hw := rfl
@[simp] theorem State.endTurn_modelFault (s : State) : (s.endTurn).modelFault = s.modelFault := rfl
@[simp] theorem State.endTurn_env_inq (s : State) : (s.endTurn).env.inq = s.env.inq := rfl
@[simp] theorem State.endTurn_env_stim (s : State) : (s.endTurn).env.stim = s.env.stim.tail := rfl
@[simp] theorem State.endTurn_env_rdata (s : State) : (s.endTurn).env.rdata = s.env.rdata := rfl
@[simp] theorem State.endTurn_env_delivered (s : State) : (s.endTurn).env.delivered = s.env.delivered := rfl
@[simp] theorem State.endTurn_env_raised (s : State) : (s.endTurn).env.raised = .none := rfl

/-! ## `State.present` -/

@[simp] theorem State.present_cfg (s : State) (e : Event) : (s.present e).cfg = s.cfg := rfl
@[simp] theorem State.present_hw (s : State) (e : Event) : (s.present e).hw = s.hw := rfl
@[simp] theorem State.present_modelFault (s : State) (e : Event) : (s.present e).modelFault = s.modelFault := rfl
@[simp] theorem State.present_env_inq (s : State) (e : Event) : (s.present e).env.inq = s.env.inq := rfl
@[simp] theorem State.present_env_stim (s : State) (e : Event) : (s.present e).env.stim = .word e :: s.env.stim := rfl
@[simp] theorem State.present_env_rdata (s : State) (e : Event) : (s.present e).env.rdata = s.env.rdata := rfl
@[simp] theorem State.present_env_delivered (s : State) (e : Event) :
    (s.present e).env.delivered = s.env.delivered := rfl
@[simp] theorem State.present_env_raised (s : State) (e : Event) : (s.present e).env.raised = s.env.raised := rfl

end Sys2Proof.Machine
end

