-- ==== Sys2Proof/Laws/Ops.lean ====
section
/-!
SUPPORT. For each shared operation of Machine/, one lemma that says once everything it can do.
-/

namespace Sys2Proof.Machine

/-! ## Channels -/

theorem Block.chan_setChan (b : Block) (c d : Chan) (ch : Channel) :
    (b.setChan c ch).chan d = if d = c then ch else b.chan d := by
  rcases c with ⟨c, hc⟩
  rcases d with ⟨d, hd⟩
  simp only [Block.chan, Block.setChan, Fin.getElem_fin, Fin.mk.injEq]
  rw [Vector.getElem_set]
  simp only [eq_comm]

@[simp] theorem Block.chan_setChan_same (b : Block) (c : Chan) (ch : Channel) : (b.setChan c ch).chan c = ch := by
  simp [Block.chan_setChan]

theorem Block.chan_setChan_other (b : Block) {c d : Chan} (ch : Channel) (h : d ≠ c) :
    (b.setChan c ch).chan d = b.chan d := by
  simp [Block.chan_setChan, h]

theorem State.chan_eq (s : State) (c : Chan) : s.chan c = s.hw.chan c := rfl

@[simp] theorem State.chan_setChan_same (s : State) (c : Chan) (ch : Channel) : (s.setChan c ch).chan c = ch :=
  Block.chan_setChan_same _ _ _

theorem State.chan_setChan_other (s : State) {c d : Chan} (ch : Channel) (h : d ≠ c) :
    (s.setChan c ch).chan d = s.chan d := Block.chan_setChan_other _ _ h

/-- A channel written back as it was leaves the block as it was. -/
@[simp] theorem Block.setChan_chan (b : Block) (c : Chan) : b.setChan c (b.chan c) = b := by
  simp [Block.setChan, Block.chan]

@[simp] theorem Block.chan_push (b : Block) (r : Record) (c : Chan) : (b.push r).chan c = b.chan c := rfl

@[simp] theorem Block.chan_setXf (b : Block) (x : Xform) (c : Chan) : (b.setXf x).chan c = b.chan c := rfl

@[simp] theorem Block.chan_advancePointer (b : Block) (nch : Nat) (c : Chan) : (b.advancePointer nch).chan c = b.chan c := rfl

@[simp] theorem State.chan_raise (s : State) (e : ErrorEvent) (c : Chan) : (s.raise e).chan c = s.chan c := rfl

@[simp] theorem State.chan_takeByte (s : State) (c d : Chan) : (s.takeByte c).chan d = s.chan d := rfl

@[simp] theorem State.chan_endTurn (s : State) (c : Chan) : s.endTurn.chan c = s.chan c := rfl

/-- The channel state a returned decoder has meets the invariant, whatever it was before (10_state.md R23). -/
theorem Channel.inv_toSearch {cfg : Config} {ch : Channel} (h : ch.buf.wf cfg.pktLen) : ch.toSearch.Inv cfg := by
  refine ⟨h, ?_, fun _ => rfl, fun _ => ⟨rfl, rfl, rfl⟩, ?_, ?_⟩ <;> simp [SEARCH, ACCUM, READY]

theorem Channel.inv_reset (cfg : Config) (c : Chan) : (Channel.reset c).Inv cfg := by
  refine ⟨Memory.wf_nil _, ?_, fun _ => rfl, fun _ => ⟨rfl, rfl, rfl⟩, ?_, ?_⟩ <;> simp [Channel.reset, SEARCH, ACCUM, READY]

/-! ## The input queues -/

theorem State.inq_takeByte (s : State) (c d : Chan) :
    (s.takeByte c).env.inq[d] = if d = c then s.env.inq[c].tail else s.env.inq[d] := by
  rcases c with ⟨c, hc⟩
  rcases d with ⟨d, hd⟩
  simp only [State.takeByte_env_inq, Fin.getElem_fin, Fin.mk.injEq]
  rw [Vector.getElem_set]
  simp only [eq_comm]

theorem State.inq_offerBytes (s : State) (c d : Chan) (bytes : List Byte) :
    (s.offerBytes c bytes).env.inq[d] = if d = c then s.env.inq[c] ++ bytes else s.env.inq[d] := by
  rcases c with ⟨c, hc⟩
  rcases d with ⟨d, hd⟩
  simp only [State.offerBytes_env_inq, Fin.getElem_fin, Fin.mk.injEq]
  rw [Vector.getElem_set]
  simp only [eq_comm]

/-! ## Counting, the pointer, the sample index -/

theorem countUp_counted (diagEn : Bool) (n : Word) : Counted diagEn n (countUp diagEn n) := by
  cases diagEn
  · rfl
  · simp [Counted, countUp, BitVec.toNat_add]

@[simp] theorem countUp_false (n : Word) : countUp false n = n := rfl

@[simp] theorem countUp_true (n : Word) : countUp true n = n + 1#32 := rfl

/-- The next channel, in arithmetic, for a legal NCH. -/
theorem nextChan_val {nch : Nat} (c : Chan) (h : 1 ≤ nch ∧ nch ≤ MAX_NCH) : (nextChan nch c).val = (c.val + 1) % nch :=
  Nat.mod_eq_of_lt (lt_of_lt_of_le (Nat.mod_lt _ h.1) h.2)

theorem nextChan_lt {nch : Nat} (c : Chan) (h : 1 ≤ nch ∧ nch ≤ MAX_NCH) : (nextChan nch c).val < nch := by
  rw [nextChan_val c h]; exact Nat.mod_lt _ h.1

theorem Block.advancePointer_moved {nch : Nat} (b : Block) (h : 1 ≤ nch ∧ nch ≤ MAX_NCH) :
    PointerMoved nch b (b.advancePointer nch) := by
  refine ⟨nextChan_val _ h, ?_⟩
  have := b.round.isLt
  by_cases h0 : (b.sp.val + 1) % nch = 0
  · simp [nextChan_val _ h, h0, BitVec.toNat_add]
  · simpa [nextChan_val _ h, h0] using (Nat.mod_eq_of_lt this).symm

/-- The pointer update changes sp and round and nothing else. -/
theorem Block.advancePointer_eq (b : Block) (nch : Nat) :
    b.advancePointer nch = { b with sp := (b.advancePointer nch).sp, round := (b.advancePointer nch).round } := rfl

theorem Xform.advance_advanced (x : Xform) : SampleAdvanced x x.advance := by
  have := x.k.isLt
  unfold Xform.advance
  split
  · rename_i h
    exact ⟨rfl, fun he => absurd h (by simp [he]), fun _ => ⟨rfl, rfl⟩⟩
  · rename_i h
    exact ⟨rfl, fun _ => ⟨rfl, rfl⟩, fun he => absurd h (by simp only [NSAMP] at *; omega)⟩

theorem nextAge_toNat (age : Half) : (nextAge age).toNat = min (age.toNat + 1) 0xFFFF := by
  unfold nextAge
  split
  · rename_i h; simp [h]
  · rename_i h
    have : age.toNat ≠ 65535 := fun he => h (BitVec.eq_of_toNat_eq he)
    rw [BitVec.toNat_add]
    simp only [BitVec.toNat_ofNat]
    omega

theorem timedOut_iff (tmoRounds age : Half) :
    timedOut tmoRounds age = true ↔ tmoRounds.toNat ≠ 0 ∧ tmoRounds.toNat ≤ age.toNat := by
  have hz : tmoRounds = 0#16 ↔ tmoRounds.toNat = 0 :=
    ⟨fun h => by simp [h], fun h => BitVec.eq_of_toNat_eq (by simpa using h)⟩
  simp [timedOut, BitVec.le_def, hz]

/-! ## The configuration freeze -/

theorem State.writeCfg_frozen {s : State} (f : Block → Block) (h : s.hw.ctrl.en = true) : s.writeCfg f = s := by
  simp [State.writeCfg, h]

theorem State.writeCfg_open {s : State} (f : Block → Block) (h : s.hw.ctrl.en = false) :
    s.writeCfg f = { s with hw := f s.hw } := by
  simp [State.writeCfg, h]

/-! ## The filter -/

theorem acceptSample_iff (lo hi d : Half) (least i : Byte) :
    acceptSample lo hi least d i = true ↔ lo.toNat < d.toNat ∧ d.toNat < hi.toNat ∧ least.toNat < i.toNat := by
  simp [acceptSample, BitVec.lt_def, and_assoc]

theorem Xform.acc_iff (x : Xform) : x.acc = true ↔ Accepted x x.k := acceptSample_iff _ _ _ _ _

/-! ## When a step exists and what word it forms -/

theorem State.rxExists_iff (s : State) (c : Chan) :
    s.rxExists c = true ↔
      c.val < s.cfg.nch ∧ s.hw.ctrl.en = true ∧ s.env.inq[c] ≠ [] ∧ ((s.chan c).chEn = false ∨ (s.chan c).st ≠ READY) := by
  simp [State.rxExists, and_assoc]

theorem State.headByte_cons {s : State} {c : Chan} {b : Byte} {rest : List Byte} (h : s.env.inq[c] = b :: rest) :
    s.headByte c = some b := by
  rw [State.headByte, h, List.head?_cons]

theorem State.rxForms_iff (s : State) (c : Chan) (chen : Bool) (st : BitVec 2) (last crcm : Bool) (b : Byte) :
    s.rxForms c chen st last crcm b = true ↔
      c.val < s.cfg.nch ∧ s.hw.ctrl.en = true ∧ s.headByte c = some b ∧ (chen = false ∨ st ≠ READY)
      ∧ (s.chan c).chEn = chen ∧ (s.chan c).st = st ∧ (s.chan c).atLast s.cfg.pktLen = last
      ∧ decide (b = (s.chan c).crc) = crcm := by
  simp only [State.rxForms, Bool.and_eq_true, beq_iff_eq, rxExists_iff]
  have hne : s.headByte c = some b → s.env.inq[c] ≠ [] := by
    intro h he
    rw [State.headByte, he] at h
    cases h
  have hb : (b == (s.chan c).crc) = decide (b = (s.chan c).crc) := by
    by_cases h : b = (s.chan c).crc <;> simp [h]
  rw [hb]
  constructor
  · rintro ⟨⟨⟨⟨⟨⟨hc, he, -, hr⟩, hh⟩, h1⟩, h2⟩, h3⟩, h4⟩
    exact ⟨hc, he, hh, by rw [← h1, ← h2]; exact hr, h1, h2, h3, h4⟩
  · rintro ⟨hc, he, hh, hr, h1, h2, h3, h4⟩
    exact ⟨⟨⟨⟨⟨⟨hc, he, hne hh, by rw [h1, h2]; exact hr⟩, hh⟩, h1⟩, h2⟩, h3⟩, h4⟩

theorem State.visitForms_iff (s : State) (chen : Bool) (st : BitVec 2) :
    s.visitForms chen st = true ↔
      s.hw.ctrl.en = true ∧ s.hw.xf.busy = false ∧ (s.chan s.hw.sp).chEn = chen ∧ (s.chan s.hw.sp).st = st := by
  simp [State.visitForms, State.visitExists, and_assoc]

theorem State.xfForms_iff (s : State) (acc : Bool) :
    s.xfForms acc = true ↔
      s.hw.xf.busy = true ∧ s.hw.xf.acc = acc ∧ (acc = true → s.hw.outq.length < s.cfg.outDepth) := by
  cases h : s.hw.xf.acc <;> cases acc <;> simp [State.xfForms, State.xfExists, h]

/-! ## The CRC -/

theorem crcOf_nil (table : Byte → Byte) : crcOf table [] = 0x00#8 := rfl

theorem crcOf_snoc (table : Byte → Byte) (p : List Byte) (b : Byte) :
    crcOf table (p ++ [b]) = crcStep table (crcOf table p) b := by
  simp [crcOf]

/-! ## Wire fields -/

/-- A two-byte wire field is little-endian (30_encoding.md R97). -/
theorem Memory.wire16_toNat (m : Memory) (o : Nat) :
    (m.wire16 o).toNat = (m.read o).toNat + 256 * (m.read (o + 1)).toNat := by
  have := (m.read o).isLt
  rw [Memory.wire16, BitVec.toNat_append, ← Nat.shiftLeft_add_eq_or_of_lt (by omega), Nat.shiftLeft_eq]
  omega

/-! ## The transform -/

/-- The fields of W1 (30_encoding.md R100). -/
theorem w1_fields (a : BitVec 3) (b : BitVec 4) (ph : Half) :
    (0#9 ++ a ++ b ++ ph).extractLsb' 23 9 = 0#9
    ∧ (0#9 ++ a ++ b ++ ph).extractLsb' 20 3 = a
    ∧ (0#9 ++ a ++ b ++ ph).extractLsb' 16 4 = b
    ∧ (0#9 ++ a ++ b ++ ph).extractLsb' 0 16 = ph := by
  refine ⟨?_, ?_, ?_, ?_⟩ <;> ext i hi <;> simp <;> grind

/-- The record RECORD makes is laid out as 30_encoding.md R100 says. -/
theorem Xform.record_wf {nch : Nat} (x : Xform) (k : SampleIx) (ph : Half) (px py : Int) (hch : x.ch.val < nch) :
    (x.record k ph px py).Wf nch := by
  have hk := k.isLt
  obtain ⟨h1, h2, h3, -⟩ := w1_fields (BitVec.ofNat 3 x.ch.val) (BitVec.ofNat 4 k.val) ph
  refine ⟨h1, ?_, ?_⟩
  · rw [Xform.record, h2, BitVec.toNat_ofNat]
    exact lt_of_le_of_lt (Nat.mod_le _ _) hch
  · rw [Xform.record, h3, BitVec.toNat_ofNat]
    exact lt_of_le_of_lt (Nat.mod_le _ _) hk

end Sys2Proof.Machine
end

