-- ==== Sys2Proof/Laws/PerInstr.lean ====
section
/-!
SUPPORT. The per-instruction family ClassBits: the encoding of every instruction carries the class of its row in E[15:13]
(30_encoding.md R101).
-/

namespace Sys2Proof

/-- The classes of an instruction's row: one, but for the reserved row, which has two (30_encoding.md R101). -/
def Instr.classes : Instr → List (BitVec 3)
  | .rdId | .rdCtrl | .rdStatus | .rdRound | .rdFiltDist | .rdFiltInt | .rdTimeout
  | .rdChCfg _ | .rdChAng _ | .rdChPos _ | .rdChStat _
  | .rdCntOk _ | .rdCntCrc _ | .rdCntTmo _ | .rdCntRej _ | .rdUnmapped _
  | .wrId _ | .wrCtrl _ | .wrStatus _ | .wrRound _ | .wrFiltDist _ | .wrFiltInt _ | .wrTimeout _
  | .wrChCfg _ _ | .wrChAng _ _ | .wrChPos _ _ | .wrChStat _ _
  | .wrCntOk _ _ | .wrCntCrc _ _ | .wrCntTmo _ _ | .wrCntRej _ _ | .wrUnmapped _ _ => [0b000#3]
  | .rxDrain _ _ _ _ _ | .rxMarker _ _ _ | .rxSkip _ _ _ _ | .rxData _ _ _ | .rxCheckOk _ _ | .rxCheckBad _ _
  | .rxReserved _ _ _ _ _ => [0b001#3]
  | .visitOff _ | .visitIdle | .visitAge | .visitDispatch | .visitReserved _ => [0b010#3]
  | .xfReject | .xfAccept => [0b011#3]
  | .outPop => [0b100#3]
  | .reset => [0b101#3]
  | .evReserved _ => [0b110#3, 0b111#3]

end Sys2Proof

namespace Sys2Proof.Laws.ClassBits

/-- The encoding carries a class of the instruction's row in E[15:13]. -/
def Statement (i : Instr) : Prop := ∀ cfg : Config, (encode cfg i).extractLsb' 13 3 ∈ i.classes

theorem bus_class (we : Bool) (a : Addr) : (busWord we a).extractLsb' 13 3 = 0b000#3 := by
  simp only [busWord]; ext j hj; simp; grind

theorem rx_class (chen : Bool) (st : BitVec 2) (last crcm : Bool) (b : Byte) :
    (rxWord chen st last crcm b).extractLsb' 13 3 = 0b001#3 := by
  simp only [rxWord]; ext j hj; simp; grind

theorem visit_class (chen : Bool) (st : BitVec 2) (low : BitVec 10) :
    (visitWord chen st low).extractLsb' 13 3 = 0b010#3 := by
  simp only [visitWord]; ext j hj; simp; grind

theorem reserved_class (low : BitVec 14) :
    (3#2 ++ low).extractLsb' 13 3 ∈ [0b110#3, 0b111#3] := by
  have h : (3#2 ++ low).extractLsb' 13 3 = 3#2 ++ low.extractLsb' 13 1 := by ext j hj; simp; grind
  rw [h]
  generalize low.extractLsb' 13 1 = b
  revert b
  decide

theorem rdId : Statement .rdId := by
  intro cfg
  simp only [Instr.classes, encode, List.mem_singleton]
  exact bus_class _ _

theorem rdCtrl : Statement .rdCtrl := by
  intro cfg
  simp only [Instr.classes, encode, List.mem_singleton]
  exact bus_class _ _

theorem rdStatus : Statement .rdStatus := by
  intro cfg
  simp only [Instr.classes, encode, List.mem_singleton]
  exact bus_class _ _

theorem rdRound : Statement .rdRound := by
  intro cfg
  simp only [Instr.classes, encode, List.mem_singleton]
  exact bus_class _ _

theorem rdFiltDist : Statement .rdFiltDist := by
  intro cfg
  simp only [Instr.classes, encode, List.mem_singleton]
  exact bus_class _ _

theorem rdFiltInt : Statement .rdFiltInt := by
  intro cfg
  simp only [Instr.classes, encode, List.mem_singleton]
  exact bus_class _ _

theorem rdTimeout : Statement .rdTimeout := by
  intro cfg
  simp only [Instr.classes, encode, List.mem_singleton]
  exact bus_class _ _

theorem rdChCfg (c : Chan) : Statement (.rdChCfg c) := by
  intro cfg
  simp only [Instr.classes, encode, List.mem_singleton]
  exact bus_class _ _

theorem rdChAng (c : Chan) : Statement (.rdChAng c) := by
  intro cfg
  simp only [Instr.classes, encode, List.mem_singleton]
  exact bus_class _ _

theorem rdChPos (c : Chan) : Statement (.rdChPos c) := by
  intro cfg
  simp only [Instr.classes, encode, List.mem_singleton]
  exact bus_class _ _

theorem rdChStat (c : Chan) : Statement (.rdChStat c) := by
  intro cfg
  simp only [Instr.classes, encode, List.mem_singleton]
  exact bus_class _ _

theorem rdCntOk (c : Chan) : Statement (.rdCntOk c) := by
  intro cfg
  simp only [Instr.classes, encode, List.mem_singleton]
  exact bus_class _ _

theorem rdCntCrc (c : Chan) : Statement (.rdCntCrc c) := by
  intro cfg
  simp only [Instr.classes, encode, List.mem_singleton]
  exact bus_class _ _

theorem rdCntTmo (c : Chan) : Statement (.rdCntTmo c) := by
  intro cfg
  simp only [Instr.classes, encode, List.mem_singleton]
  exact bus_class _ _

theorem rdCntRej (c : Chan) : Statement (.rdCntRej c) := by
  intro cfg
  simp only [Instr.classes, encode, List.mem_singleton]
  exact bus_class _ _

theorem rdUnmapped (a : Addr) : Statement (.rdUnmapped a) := by
  intro cfg
  simp only [Instr.classes, encode, List.mem_singleton]
  exact bus_class _ _

theorem wrId (d : Word) : Statement (.wrId d) := by
  intro cfg
  simp only [Instr.classes, encode, List.mem_singleton]
  exact bus_class _ _

theorem wrCtrl (d : Word) : Statement (.wrCtrl d) := by
  intro cfg
  simp only [Instr.classes, encode, List.mem_singleton]
  exact bus_class _ _

theorem wrStatus (d : Word) : Statement (.wrStatus d) := by
  intro cfg
  simp only [Instr.classes, encode, List.mem_singleton]
  exact bus_class _ _

theorem wrRound (d : Word) : Statement (.wrRound d) := by
  intro cfg
  simp only [Instr.classes, encode, List.mem_singleton]
  exact bus_class _ _

theorem wrFiltDist (d : Word) : Statement (.wrFiltDist d) := by
  intro cfg
  simp only [Instr.classes, encode, List.mem_singleton]
  exact bus_class _ _

theorem wrFiltInt (d : Word) : Statement (.wrFiltInt d) := by
  intro cfg
  simp only [Instr.classes, encode, List.mem_singleton]
  exact bus_class _ _

theorem wrTimeout (d : Word) : Statement (.wrTimeout d) := by
  intro cfg
  simp only [Instr.classes, encode, List.mem_singleton]
  exact bus_class _ _

theorem wrChCfg (c : Chan) (d : Word) : Statement (.wrChCfg c d) := by
  intro cfg
  simp only [Instr.classes, encode, List.mem_singleton]
  exact bus_class _ _

theorem wrChAng (c : Chan) (d : Word) : Statement (.wrChAng c d) := by
  intro cfg
  simp only [Instr.classes, encode, List.mem_singleton]
  exact bus_class _ _

theorem wrChPos (c : Chan) (d : Word) : Statement (.wrChPos c d) := by
  intro cfg
  simp only [Instr.classes, encode, List.mem_singleton]
  exact bus_class _ _

theorem wrChStat (c : Chan) (d : Word) : Statement (.wrChStat c d) := by
  intro cfg
  simp only [Instr.classes, encode, List.mem_singleton]
  exact bus_class _ _

theorem wrCntOk (c : Chan) (d : Word) : Statement (.wrCntOk c d) := by
  intro cfg
  simp only [Instr.classes, encode, List.mem_singleton]
  exact bus_class _ _

theorem wrCntCrc (c : Chan) (d : Word) : Statement (.wrCntCrc c d) := by
  intro cfg
  simp only [Instr.classes, encode, List.mem_singleton]
  exact bus_class _ _

theorem wrCntTmo (c : Chan) (d : Word) : Statement (.wrCntTmo c d) := by
  intro cfg
  simp only [Instr.classes, encode, List.mem_singleton]
  exact bus_class _ _

theorem wrCntRej (c : Chan) (d : Word) : Statement (.wrCntRej c d) := by
  intro cfg
  simp only [Instr.classes, encode, List.mem_singleton]
  exact bus_class _ _

theorem wrUnmapped (a : Addr) (d : Word) : Statement (.wrUnmapped a d) := by
  intro cfg
  simp only [Instr.classes, encode, List.mem_singleton]
  exact bus_class _ _

theorem rxDrain (c : Chan) (st : BitVec 2) (last crcm : Bool) (b : Byte) : Statement (.rxDrain c st last crcm b) := by
  intro cfg
  simp only [Instr.classes, encode, List.mem_singleton]
  exact rx_class _ _ _ _ _

theorem rxMarker (c : Chan) (last crcm : Bool) : Statement (.rxMarker c last crcm) := by
  intro cfg
  simp only [Instr.classes, encode, List.mem_singleton]
  exact rx_class _ _ _ _ _

theorem rxSkip (c : Chan) (last crcm : Bool) (b : Byte) : Statement (.rxSkip c last crcm b) := by
  intro cfg
  simp only [Instr.classes, encode, List.mem_singleton]
  exact rx_class _ _ _ _ _

theorem rxData (c : Chan) (crcm : Bool) (b : Byte) : Statement (.rxData c crcm b) := by
  intro cfg
  simp only [Instr.classes, encode, List.mem_singleton]
  exact rx_class _ _ _ _ _

theorem rxCheckOk (c : Chan) (b : Byte) : Statement (.rxCheckOk c b) := by
  intro cfg
  simp only [Instr.classes, encode, List.mem_singleton]
  exact rx_class _ _ _ _ _

theorem rxCheckBad (c : Chan) (b : Byte) : Statement (.rxCheckBad c b) := by
  intro cfg
  simp only [Instr.classes, encode, List.mem_singleton]
  exact rx_class _ _ _ _ _

theorem rxReserved (c : Chan) (st : BitVec 2) (last crcm : Bool) (b : Byte) : Statement (.rxReserved c st last crcm b) := by
  intro cfg
  simp only [Instr.classes, encode, List.mem_singleton]
  exact rx_class _ _ _ _ _

theorem visitOff (st : BitVec 2) : Statement (.visitOff st) := by
  intro cfg
  simp only [Instr.classes, encode, List.mem_singleton]
  exact visit_class _ _ _

theorem visitIdle : Statement .visitIdle := by
  intro cfg
  simp only [Instr.classes, encode, List.mem_singleton]
  exact visit_class _ _ _

theorem visitAge : Statement .visitAge := by
  intro cfg
  simp only [Instr.classes, encode, List.mem_singleton]
  exact visit_class _ _ _

theorem visitDispatch : Statement .visitDispatch := by
  intro cfg
  simp only [Instr.classes, encode, List.mem_singleton]
  exact visit_class _ _ _

theorem visitReserved (low : BitVec 10) : Statement (.visitReserved low) := by
  intro cfg
  simp only [Instr.classes, encode, List.mem_singleton]
  exact visit_class _ _ _

theorem xfReject : Statement .xfReject := by
  intro cfg
  simp only [Instr.classes, encode]
  decide

theorem xfAccept : Statement .xfAccept := by
  intro cfg
  simp only [Instr.classes, encode]
  decide

theorem outPop : Statement .outPop := by
  intro cfg
  simp only [Instr.classes, encode]
  decide

theorem reset : Statement .reset := by
  intro cfg
  simp only [Instr.classes, encode]
  decide

theorem evReserved (low : BitVec 14) : Statement (.evReserved low) := by
  intro cfg
  simp only [Instr.classes, encode, reservedWord]
  exact reserved_class low

end Sys2Proof.Laws.ClassBits
end

