-- ==== Sys2Proof/Laws/Step.lean ====
section
/-!
SUPPORT. What one step and a run of steps can do, said once: a next state comes from the instruction of the next event or
from a turn that passes.
-/

namespace Sys2Proof.Machine

theorem State.nextInstr_some {s : State} {e : Event} (h : s.nextEvent = some e) : s.nextInstr = some (decode s.cfg e) := by
  simp [State.nextInstr, h]

theorem State.nextInstr_none {s : State} (h : s.nextEvent = none) : s.nextInstr = none := by
  simp [State.nextInstr, h]

theorem step_of_instr {s : State} {i : Instr} (hf : s.modelFault = none) (hi : s.nextInstr = some i) :
    step s = exec i s.endTurn := by
  simp [step, hf, hi]

theorem step_of_none {s : State} (hf : s.modelFault = none) (hi : s.nextInstr = none) : step s = .next s.noStep := by
  simp [step, hf, hi]

/-- Where a step goes on, no model fault was recorded, and it ran the next event's instruction or passed the turn. -/
theorem step_next_cases {s t : State} (h : step s = .next t) :
    s.modelFault = none
    ∧ ((∃ i, s.nextInstr = some i ∧ exec i s.endTurn = .next t) ∨ (s.nextInstr = none ∧ t = s.noStep)) := by
  unfold step at h
  split at h
  · cases h
  · rename_i hf
    refine ⟨hf, ?_⟩
    split at h
    · rename_i i hi; exact .inl ⟨i, hi, h⟩
    · rename_i hi; exact .inr ⟨hi, (Host.Outcome.next.inj h).symm⟩

@[simp] theorem State.noStep_cfg (s : State) : s.noStep.cfg = s.cfg := by
  unfold State.noStep; split <;> rfl

@[simp] theorem State.noStep_hw (s : State) : s.noStep.hw = s.hw := by
  unfold State.noStep; split <;> rfl

@[simp] theorem State.noStep_modelFault (s : State) : s.noStep.modelFault = s.modelFault := by
  unfold State.noStep; split <;> rfl

@[simp] theorem State.noStep_delivered (s : State) : s.noStep.env.delivered = s.env.delivered := by
  unfold State.noStep; split <;> rfl

/-- One step, then the rest of the run. -/
theorem run_succ_of_next {s t : State} (n : Nat) (h : step s = .next t) :
    Sys2Proof.core.run (n + 1) s = Sys2Proof.core.run n t := by
  simp only [Host.Core.run]
  have : Sys2Proof.core.step s = .next t := h
  rw [this]

end Sys2Proof.Machine
end

