-- ==== Sys2Proof/Tests/Slice0.lean ====
section
/-!
SUPPORT. The model's own tests: well-formedness, one written-out word for every constructor, single steps from the examples
of the rules, and for every obligation with hypotheses a concrete state that meets them (`witness_…`).
-/

namespace Sys2Proof.Tests

open Sys2Proof.Machine

/-! ## Well-formedness: each check refuses an ill-formed term -/

theorem test_wf_refuses_mapped_read : Instr.WellFormed hardware (.rdUnmapped 0x008#12) = false := by decide

theorem test_wf_refuses_mapped_write : Instr.WellFormed hardware (.wrUnmapped 0x17C#12 0#32) = false := by decide

theorem test_wf_refuses_skipped_marker : Instr.WellFormed hardware (.rxSkip 0 false false 0x54#8) = false := by decide

theorem test_wf_refuses_reserved_search : Instr.WellFormed hardware (.rxReserved 0 1#2 false false 0x00#8) = false := by decide

theorem test_wf_refuses_absent_channel :
    Instr.WellFormed hardware (.rdChCfg 4) = false ∧ Instr.WellFormed hardware (.wrCntRej 7 0#32) = false := by decide

/-! ## Decode: words written out from 30_encoding.md R99 and R101 to R107 -/

/-- The row of a word, its channel operand 1 and its data operand 7. -/
def row (w : EventWord) : Instr := decode hardware { word := w, chan := 1, data := 7#32 }

theorem test_decode_reads :
    row 0b0000000000000000#16 = .rdId ∧ row 0b0000000000000100#16 = .rdCtrl
    ∧ row 0b0000000000001000#16 = .rdStatus ∧ row 0b0000000000001100#16 = .rdRound
    ∧ row 0b0000000000010000#16 = .rdFiltDist ∧ row 0b0000000000010100#16 = .rdFiltInt
    ∧ row 0b0000000000011000#16 = .rdTimeout ∧ row 0b0000000100000000#16 = .rdChCfg 0
    ∧ row 0b0000000100100100#16 = .rdChAng 1 ∧ row 0b0000000101001000#16 = .rdChPos 2
    ∧ row 0b0000000101101100#16 = .rdChStat 3 ∧ row 0b0000000100010000#16 = .rdCntOk 0
    ∧ row 0b0000000100110100#16 = .rdCntCrc 1 ∧ row 0b0000000101011000#16 = .rdCntTmo 2
    ∧ row 0b0000000101111100#16 = .rdCntRej 3 ∧ row 0b0000000110000000#16 = .rdUnmapped 0x180#12 := by decide

theorem test_decode_writes :
    row 0b0001000000000000#16 = .wrId 7#32 ∧ row 0b0001000000000100#16 = .wrCtrl 7#32
    ∧ row 0b0001000000001000#16 = .wrStatus 7#32 ∧ row 0b0001000000001100#16 = .wrRound 7#32
    ∧ row 0b0001000000010000#16 = .wrFiltDist 7#32 ∧ row 0b0001000000010100#16 = .wrFiltInt 7#32
    ∧ row 0b0001000000011000#16 = .wrTimeout 7#32 ∧ row 0b0001000100000000#16 = .wrChCfg 0 7#32
    ∧ row 0b0001000100100100#16 = .wrChAng 1 7#32 ∧ row 0b0001000101001000#16 = .wrChPos 2 7#32
    ∧ row 0b0001000101101100#16 = .wrChStat 3 7#32 ∧ row 0b0001000100010000#16 = .wrCntOk 0 7#32
    ∧ row 0b0001000100110100#16 = .wrCntCrc 1 7#32 ∧ row 0b0001000101011000#16 = .wrCntTmo 2 7#32
    ∧ row 0b0001000101111100#16 = .wrCntRej 3 7#32
    ∧ row 0b0001000000000101#16 = .wrUnmapped 0x005#12 7#32 := by decide

theorem test_decode_rx :
    row 0b0010010101010100#16 = .rxDrain 1 1#2 false true 0x54#8
    ∧ row 0b0011001001010100#16 = .rxMarker 1 true false
    ∧ row 0b0011000001010101#16 = .rxSkip 1 false false 0x55#8
    ∧ row 0b0011010101010100#16 = .rxData 1 true 0x54#8
    ∧ row 0b0011011100111011#16 = .rxCheckOk 1 0x3B#8
    ∧ row 0b0011011011000100#16 = .rxCheckBad 1 0xC4#8
    ∧ row 0b0011101000000001#16 = .rxReserved 1 2#2 true false 0x01#8
    ∧ row 0b0011110100000001#16 = .rxReserved 1 3#2 false true 0x01#8 := by decide

theorem test_decode_agents :
    row 0b0100100000000000#16 = .visitOff 2#2 ∧ row 0b0101000000000000#16 = .visitIdle
    ∧ row 0b0101010000000000#16 = .visitAge ∧ row 0b0101100000000000#16 = .visitDispatch
    ∧ row 0b0101110000000001#16 = .visitReserved 1#10
    ∧ row 0b0110000000000000#16 = .xfReject ∧ row 0b0111000000000000#16 = .xfAccept
    ∧ row 0b1000000000000000#16 = .outPop ∧ row 0b1010000000000000#16 = .reset
    ∧ row 0b1110000000000001#16 = .evReserved 0x2001#14 := by decide

/-- Another legal configuration (00_scope.md R7): two channels, the shortest packet, another marker, one record of
output. -/
def other : Config := { hardware with nch := 2, pktLen := 47, marker := 0xAA#8, outDepth := 1 }

theorem test_configurations_legal : hardware.Legal ∧ other.Legal := by decide

/-- R101 to R103 in another configuration: channel 2 does not exist, and the marker is another byte. -/
theorem test_decode_other_configuration :
    decode other { word := 0x0140#16, chan := 0, data := 0#32 } = .rdUnmapped 0x140#12
    ∧ decode other { word := 0x0120#16, chan := 0, data := 0#32 } = .rdChCfg 1
    ∧ decode other { word := 0x30AA#16, chan := 1, data := 0#32 } = .rxMarker 1 false false
    ∧ decode other { word := 0x3054#16, chan := 1, data := 0#32 } = .rxSkip 1 false false 0x54#8 := by decide

/-! ## Small states -/

/-- The reset machine with CTRL.EN = DIAG_EN = 1, channel c changed by f, bytes offered to it, and turns to come. -/
def stage (c : Chan) (f : Channel → Channel) (bytes : List Byte) (turns : List Stimulus) : State :=
  { cfg := hardware
    hw := { Block.reset.setChan c (f (Block.reset.chan c)) with
      ctrl := { en := true, wrapFix := true, posEn := false, diagEn := true } }
    env := { Env.quiet with inq := Env.quiet.inq.set c bytes, stim := turns }
    modelFault := none }

/-- A decoder inside a packet: n bytes taken, the running CRC r, age a, the marker in its buffer. -/
def inPacket (n : BitVec 7) (r : Byte) (a : Half) (ch : Channel) : Channel :=
  { ch with st := ACCUM, cur := n, crc := r, age := a, buf := [(0, 0x54#8)] }

/-- A decoder holding a packet. -/
def holding (ch : Channel) : Channel :=
  { ch with st := READY, cur := 57#7, buf := [(0, 0x54#8), (6, 0xE8#8), (7, 0x03#8)] }

/-- The transform unit of channel 2, device 2, mounting offset 90 degrees, at sample k with every distance d, every
intensity 200, and OUTQ q. -/
def dispatched (k : SampleIx) (d : Half) (q : List Record) (turns : List Stimulus) : State :=
  { cfg := hardware
    hw := { Block.reset with
      ctrl := { en := true, wrapFix := true, posEn := false, diagEn := true }
      outq := q
      xf := { Xform.reset with
        busy := true, k := k, ch := 2, dev := 2#8, off := 9000#16, dist := Vector.replicate NSAMP d
        inten := Vector.replicate NSAMP 200#8, minDist := 100#16, maxDist := 2500#16, minInt := 150#8, wrap := true } }
    env := { Env.quiet with stim := turns }
    modelFault := none }

/-- A record. -/
def point (n : Nat) : Record := { w0 := BitVec.ofNat 32 n, w1 := 0#32, w2 := 0#32, w3 := 0#32 }

/-- The state an outcome goes on in. -/
def goesTo (o : Host.Outcome State Fault Refusal) : Option State :=
  match o with
  | .next t => some t
  | _ => none

/-- What f sees after one instruction. -/
def after {α : Type} (i : Instr) (s : State) (f : State → α) : Option α := (goesTo (exec i s)).map f

/-! ## Single steps, from the examples of the rules -/

/-- R222 -/
theorem test_rd_id : after .rdId State.reset (·.env.rdata) = some 0x544C0439#32 := by decide

/-- R222, R223, R39 in another configuration. -/
theorem test_rd_other_configuration :
    after .rdId (State.resetWith other) (·.env.rdata) = some 0x544C022F#32
    ∧ after .rdStatus
        { State.resetWith other with hw := { Block.reset with sp := 1, outq := [point 0] } }
        (·.env.rdata) = some 0x00010102#32 := by decide

/-- R131 in another configuration: its marker starts a packet, this hardware's does not. -/
theorem test_rx_other_configuration :
    (let s := { stage 1 id [0xAA#8] [.take 1] with cfg := other }
     (goesTo (step s)).map fun t => (t.chan 1).st) = some ACCUM
    ∧ (let s := { stage 1 id [0x54#8] [.take 1] with cfg := other }
       (goesTo (step s)).map fun t => (t.chan 1).st) = some SEARCH
    ∧ (let s := { stage 2 id [0xAA#8] [.take 2] with cfg := other }
       s.nextEvent = none) := by decide

/-- R223 -/
theorem test_rd_ctrl : after .rdCtrl State.reset (·.env.rdata) = some 0x00000002#32 := by decide

/-- R224 -/
theorem test_rd_status :
    after .rdStatus
      { State.reset with hw := { Block.reset with
        sp := 3, xf := { Xform.reset with busy := true, ch := 2, k := 5 }, outq := List.replicate 16 (point 0) } }
      (·.env.rdata) = some 0x02531003#32 := by decide

/-- R226, R229, R230 -/
theorem test_rd_reset_values :
    after .rdFiltDist State.reset (·.env.rdata) = some 0x09C40064#32
    ∧ after (.rdChCfg 2) State.reset (·.env.rdata) = some 0x00000102#32
    ∧ after (.rdChAng 3) State.reset (·.env.rdata) = some 0x00006978#32 := by decide

/-- R231, R246 -/
theorem test_ch_pos :
    (after (.wrChPos 2 0x004BFF6A#32) State.reset fun t => ((t.chan 2).posX.toInt, (t.chan 2).posY.toInt))
      = some (-150, 75)
    ∧ ((goesTo (exec (.wrChPos 2 0x004BFF6A#32) State.reset)).bind fun t => after (.rdChPos 2) t (·.env.rdata))
      = some 0x004BFF6A#32 := by decide

/-- R232 -/
theorem test_rd_ch_stat :
    after (.rdChStat 1) (stage 1 (inPacket 20#7 0x00#8 2#16) [] []) (·.env.rdata) = some 0x00021401#32 := by decide

/-- R238: the second write finds WRAP_FIX and POS_EN frozen. -/
theorem test_wr_ctrl :
    ((goesTo (exec (.wrCtrl 0xF#32) State.reset)).bind fun t => after (.wrCtrl 0x9#32) t (·.hw.ctrl))
      = some { en := true, wrapFix := true, posEn := true, diagEn := true } := by decide

/-- R241, R242 -/
theorem test_wr_filter :
    (after (.wrFiltDist 0x13880032#32) State.reset fun t => (t.hw.minDist, t.hw.maxDist)) = some (50#16, 5000#16)
    ∧ after (.wrFiltInt 0x1FF#32) State.reset (·.hw.minInt) = some 255#8 := by decide

/-- R244 -/
theorem test_wr_ch_cfg :
    (after (.wrChCfg 1 0x7#32)
      { State.reset with hw := Block.reset.setChan 1 (inPacket 30#7 0x11#8 3#16 (Block.reset.chan 1)) }
      fun t => ((t.chan 1).devId, (t.chan 1).chEn, (t.chan 1).st, (t.chan 1).cur.toNat))
      = some (7#8, false, SEARCH, 0) := by decide

/-- R131 -/
theorem test_rx_marker :
    (after (.rxMarker 0 false false) (stage 0 id [0x54#8] []) fun t =>
      ((t.chan 0).st, (t.chan 0).cur.toNat, (t.chan 0).crc, (t.chan 0).buf)) = some (ACCUM, 1, 0xEE#8, [(0, 0x54#8)]) := by
  decide

/-- R132 -/
theorem test_rx_data :
    (after (.rxData 0 false 0x2C#8) (stage 0 (inPacket 1#7 0xEE#8 0#16) [0x2C#8] []) fun t =>
      ((t.chan 0).cur.toNat, (t.chan 0).crc, (t.chan 0).buf.read 1)) = some (2, 0xD8#8, 0x2C#8) := by decide

/-- R133 -/
theorem test_rx_check_ok :
    (after (.rxCheckOk 0 0x3B#8) (stage 0 (inPacket 56#7 0x3B#8 0#16) [0x3B#8] []) fun t =>
      ((t.chan 0).st, (t.chan 0).cur.toNat, (t.chan 0).cntOk)) = some (READY, 57, 1#32) := by decide

/-- R136, and R249: the counter wraps. -/
theorem test_rx_check_bad :
    (after (.rxCheckBad 3 0xC4#8)
      (stage 3 (fun ch => { inPacket 56#7 0x3B#8 9#16 ch with cntCrc := 0xFFFFFFFF#32 }) [0xC4#8] []) fun t =>
      ((t.chan 3).st, (t.chan 3).cur.toNat, (t.chan 3).cntCrc, t.env.raised))
      = some (SEARCH, 0, 0#32, .checksumError 3) := by decide

/-- R191 -/
theorem test_visit_dispatch :
    (after .visitDispatch
      (let s := stage 1 holding [] []; { s with hw := { s.hw with sp := 1 } }) fun t =>
      (t.hw.xf.busy, t.hw.xf.ch.val, (t.chan 1).st, t.hw.sp.val, t.hw.xf.dist[(0 : SampleIx)]))
      = some (true, 1, SEARCH, 2, 1000#16) := by decide

/-- R192 -/
theorem test_visit_age :
    (after .visitAge
      (let s := stage 0 (inPacket 9#7 0x11#8 1#16) [] []; { s with hw := { s.hw with tmoRounds := 2#16 } }) fun t =>
      ((t.chan 0).st, (t.chan 0).cur.toNat, (t.chan 0).cntTmo, t.env.raised))
      = some (SEARCH, 0, 1#32, .timeoutError 0) := by decide

/-- R193, R194 -/
theorem test_visit_pointer :
    (after .visitIdle (let s := stage 0 id [] []; { s with hw := { s.hw with sp := 3 } }) fun t =>
      (t.hw.sp.val, t.hw.round)) = some (0, 1#32)
    ∧ (after (.visitOff SEARCH)
        (let s := stage 2 (fun ch => { ch with chEn := false }) [] []; { s with hw := { s.hw with sp := 2 } }) fun t =>
        (t.hw.sp.val, t.hw.round)) = some (3, 0#32) := by decide

/-- R203, the source's end-to-end case: the point is at (-1000, 0). -/
theorem test_xf_accept :
    (after .xfAccept (dispatched 0 1000#16 [] []) fun t => (t.hw.outq, t.hw.xf.k.val))
      = some ([{ w0 := 0x03E8C802#32, w1 := 0x00204000#32, w2 := 0xFFFFFC18#32, w3 := 0x00000000#32 }], 1) := by
  decide +kernel

/-- R204 -/
theorem test_xf_reject :
    (after .xfReject (dispatched 11 100#16 [] []) fun t =>
      (t.hw.outq, t.hw.xf.busy, t.hw.xf.k.val, (t.chan 2).cntRej, t.env.raised))
      = some ([], false, 0, 1#32, .rangeRejection 2 11) := by decide

/-- R205 -/
theorem test_out_pop :
    (after .outPop (dispatched 0 1000#16 [point 1, point 2] []) fun t => (t.env.delivered, t.hw.outq))
      = some ([point 1], [point 2]) := by decide

/-- R290 -/
theorem test_reset :
    ((goesTo (exec .reset (dispatched 3 1000#16 [point 1] []))).bind fun t => after .rdStatus t (·.env.rdata))
      = some 0x00000004#32 := by decide

/-- R207: a reserved word is recorded, and the next step stops and names it. -/
theorem test_reserved_word :
    (goesTo (step { State.reset with env := { Env.quiet with stim := [.word { word := 0xC001#16, chan := 0, data := 0#32 }] } })).map
      step = some (.fault (.modelFault 0xC001#16)) := by rfl

/-- R158, R154: one degree is 182 units; the wrap fix. -/
theorem test_angles :
    phase 1100 = 0x00B6#16 ∧ endAdj 35500#16 500#16 true = 36500 ∧ interp 1 0#16 1100 = 1100 := by decide

/-! ## Witnesses: states that meet the hypotheses of the obligations -/

/-- A packet of zeros with its own CRC (30_encoding.md R91). -/
def packet : List Byte :=
  let body := 0x54#8 :: List.replicate 55 0x00#8
  body ++ [crcOf hardware.crc body]

theorem witness_decodeEncodeRoundTrip :
    hardware.Legal ∧ Instr.WellFormed hardware (.rxSkip 3 true false 0x53#8) = true ∧ Instr.WellFormed hardware (.wrUnmapped 0x180#12 5#32) = true := by
  decide

theorem witness_decodedInstructionsReencode :
    other.Legal ∧ (0x3FFF#16).toNat < 0x4000 ∧ 0xC000 ≤ (0xC000#16).toNat := by decide

theorem witness_stepRunsDecodedEvent :
    let s := stage 0 id [0x54#8] [.take 0]
    s.modelFault = none
    ∧ s.nextEvent = some { word := 0b0011000001010100#16, chan := 0, data := 0#32 } := by decide

theorem witness_eventWords_bus :
    (stage 0 id [] [.rd 0xFFF#12]).env.stim = [.rd 0xFFF#12]
    ∧ (stage 0 id [] [.wr 0x000#12 3#32]).env.stim = [.wr 0x000#12 3#32] := by decide

theorem witness_eventWords_rx :
    let s := stage 2 (inPacket 56#7 0x3B#8 0#16) [0x3B#8] [.take 2]
    (2 : Chan).val < s.cfg.nch ∧ s.env.stim = .take 2 :: [] ∧ s.env.inq[(2 : Chan)] = 0x3B#8 :: [] ∧ s.hw.ctrl.en = true
    ∧ ((s.chan 2).chEn = false ∨ (s.chan 2).st ≠ READY) := by decide

theorem witness_eventWords_visit :
    let s := stage 0 holding [] [.visit]
    s.env.stim = .visit :: [] ∧ s.hw.ctrl.en = true ∧ s.hw.xf.busy = false := by decide

theorem witness_eventWords_xf :
    (let s := dispatched 0 101#16 [] [.xf]
     s.env.stim = .xf :: [] ∧ s.hw.xf.busy = true ∧ Accepted s.hw.xf s.hw.xf.k ∧ s.hw.outq.length < s.cfg.outDepth)
    ∧ (let s := dispatched 11 2500#16 [] [.xf]
       s.env.stim = .xf :: [] ∧ s.hw.xf.busy = true ∧ ¬Accepted s.hw.xf s.hw.xf.k) := by
  unfold Accepted
  decide

theorem witness_eventWords_pop :
    (dispatched 0 101#16 [point 1] [.pop]).env.stim = .pop :: [] ∧ (dispatched 0 101#16 [point 1] [.pop]).hw.outq ≠ []
    ∧ (stage 0 id [] [.reset]).env.stim = .reset :: [] := by decide

theorem witness_agentsWithoutAStep :
    (stage 1 holding [0x00#8] [.take 1]).env.stim = .take 1 :: []
    ∧ (stage 1 id [] [.visit]).env.stim = .visit :: []
    ∧ (dispatched 0 101#16 (List.replicate 16 (point 0)) [.xf]).env.stim = .xf :: []
    ∧ (stage 1 id [] [.pop]).env.stim = .pop :: [] := by decide

theorem witness_passedTurnChangesNothing :
    (stage 0 id [] [.rx 3 [0x54#8]]).modelFault = none ∧ (stage 0 id [] [.rx 3 [0x54#8]]).nextEvent = none
    ∧ (stage 0 holding [1#8] [.take 0]).nextEvent = none := by decide

theorem witness_recordedModelFault :
    { State.reset with modelFault := some 0xC000#16 }.modelFault = some 0xC000#16 := by decide

/-- Idle with records of a former run in its counters, a decoder's turn next; and a next state without a write of CTRL. -/
theorem witness_idle :
    (let s : State := { State.reset with
       hw := Block.reset.setChan 3 { Block.reset.chan 3 with cntOk := 7#32 }, env := { Env.quiet with stim := [.take 3] } }
     s.hw.Idle ∧ s.env.stim = .take 3 :: [])
    ∧ (let s : State := { State.reset with env := { Env.quiet with stim := [.wr 0x110#12 5#32] } }
       s.hw.Idle ∧ (goesTo (step s)).isSome = true ∧ s.nextInstr = some (.wrCntOk 0 5#32)) := by decide

/-- A machine with channel 1 one byte inside a packet meets the invariant, and its next step goes on. -/
theorem witness_inv :
    let s := stage 1 (inPacket 1#7 0xEE#8 0#16) [0x2C#8] [.take 1]
    s.Inv ∧ s.modelFault = none ∧ (goesTo (step s)).isSome = true := by decide

theorem witness_execAnswersNext :
    let s := stage 1 (inPacket 57#7 0x3B#8 0#16) [0x2C#8] []
    Instr.rxData 1 false 0x2C#8 = .rxData 1 false 0x2C#8 ∧ s.hw.ctrl.en = true
    ∧ (1 : Chan).val < s.cfg.nch ∧ s.env.inq[(1 : Chan)].head? = some 0x2C#8 ∧ (s.chan 1).chEn = true
    ∧ (s.chan 1).st = ACCUM ∧ s.cfg.pktLen ≤ (s.chan 1).cur.toNat ∧ (s.chan 1).cur.toNat ≠ s.cfg.pktLen - 1 ∧ false = decide (0x2C#8 = (s.chan 1).crc) := by decide

theorem witness_statusRead :
    let s := dispatched 0 101#16 (List.replicate 16 (point 0)) []
    s.cfg.Legal ∧ s.hw.outq.length ≤ s.cfg.outDepth ∧ s.cfg.outDepth ≤ 255 := by decide

theorem witness_channel : (3 : Chan).val < State.reset.cfg.nch ∧ State.reset.cfg.Legal := by decide

theorem witness_unmapped :
    (0xFFF#12).toNat % 4 ≠ 0 ∧ (0x01C#12).toNat = 0x01C ∧ (0x020 ≤ (0x0FC#12).toNat ∧ (0x0FC#12).toNat ≤ 0x0FF)
    ∧ (0x100 + 0x20 * hardware.nch ≤ (0x180#12).toNat ∧ (0x180#12).toNat < 0x200) ∧ 0x200 ≤ (0x200#12).toNat := by decide

theorem witness_enabled_and_not : (stage 0 id [] []).hw.ctrl.en = true ∧ State.reset.hw.ctrl.en = false := by decide

theorem witness_channelEnable :
    State.reset.hw.ctrl.en = false ∧ (State.reset.chan 3).chEn = true ∧ (0xFF#32).toNat / 256 % 2 = 0
    ∧ ¬((State.reset.chan 3).chEn = true ∧ (0x100#32).toNat / 256 % 2 = 0) := by decide

/-- Whether the step that writes d to address a, right after reset, changes what f sees and is no RESET. -/
def changes {α : Type} [DecidableEq α] (a : Addr) (d : Word) (f : State → α) : Bool :=
  let s : State := { State.reset with env := { Env.quiet with stim := [.wr a d] } }
  decide (s.nextInstr ≠ some .reset) && match step s with
    | .next t => decide (f t ≠ f s)
    | _ => false

/-- Every clause's field changes somewhere. -/
theorem witness_configurationFrozen :
    changes 0x010#12 0#32 (·.hw.minDist) = true ∧ changes 0x010#12 0#32 (·.hw.maxDist) = true
    ∧ changes 0x014#12 0#32 (·.hw.minInt) = true ∧ changes 0x018#12 1#32 (·.hw.tmoRounds) = true
    ∧ changes 0x004#12 0#32 (·.hw.ctrl.wrapFix) = true ∧ changes 0x004#12 4#32 (·.hw.ctrl.posEn) = true
    ∧ changes 0x160#12 0#32 (fun s => (s.chan 3).devId) = true ∧ changes 0x160#12 0#32 (fun s => (s.chan 3).chEn) = true
    ∧ changes 0x164#12 0#32 (fun s => (s.chan 3).angOff) = true
    ∧ changes 0x168#12 1#32 (fun s => (s.chan 3).posX) = true
    ∧ changes 0x168#12 0x10000#32 (fun s => (s.chan 3).posY) = true := by decide

theorem witness_rxMarker :
    let s := stage 3 id [0x54#8, 0x2C#8] []
    (3 : Chan).val < s.cfg.nch ∧ s.hw.ctrl.en = true ∧ s.env.inq[(3 : Chan)] = s.cfg.marker :: [0x2C#8] ∧ (s.chan 3).chEn = true
    ∧ (s.chan 3).st = SEARCH ∧ false = decide ((s.chan 3).cur.toNat = s.cfg.pktLen - 1)
    ∧ false = decide (s.cfg.marker = (s.chan 3).crc) := by decide

theorem witness_rxData :
    let s := stage 3 (inPacket 55#7 0x3B#8 0#16) [0x54#8] []
    s.cfg.Legal ∧ (3 : Chan).val < s.cfg.nch ∧ s.hw.ctrl.en = true
    ∧ s.env.inq[(3 : Chan)] = 0x54#8 :: [] ∧ (s.chan 3).chEn = true ∧ (s.chan 3).st = ACCUM
    ∧ (s.chan 3).cur.toNat < s.cfg.pktLen - 1 ∧ false = decide (0x54#8 = (s.chan 3).crc) := by decide

theorem witness_rxCheck :
    let s := stage 0 (inPacket 56#7 0x3B#8 0#16) [0x3B#8] []
    s.cfg.Legal ∧ (0 : Chan).val < s.cfg.nch ∧ s.hw.ctrl.en = true
    ∧ s.env.inq[(0 : Chan)] = 0x3B#8 :: [] ∧ (s.chan 0).chEn = true ∧ (s.chan 0).st = ACCUM
    ∧ (s.chan 0).cur.toNat = s.cfg.pktLen - 1 ∧ 0x3B#8 = (s.chan 0).crc := by decide

theorem witness_rxCheckBad :
    let s := stage 0 (inPacket 56#7 0x3B#8 0#16) [0xC4#8] []
    (0 : Chan).val < s.cfg.nch ∧ s.hw.ctrl.en = true ∧ s.env.inq[(0 : Chan)] = 0xC4#8 :: [] ∧ (s.chan 0).chEn = true ∧ (s.chan 0).st = ACCUM
    ∧ (s.chan 0).cur.toNat = s.cfg.pktLen - 1 ∧ 0xC4#8 ≠ (s.chan 0).crc := by decide

theorem witness_rxSkip :
    let s := stage 0 id [0x00#8] []
    (0 : Chan).val < s.cfg.nch ∧ s.hw.ctrl.en = true ∧ s.env.inq[(0 : Chan)] = 0x00#8 :: []
    ∧ false = decide ((s.chan 0).cur.toNat = s.cfg.pktLen - 1) ∧ true = decide (0x00#8 = (s.chan 0).crc)
    ∧ (s.chan 0).chEn = true ∧ (s.chan 0).st = SEARCH ∧ 0x00#8 ≠ s.cfg.marker := by decide

theorem witness_rxDrain :
    let s := stage 0 (fun ch => { ch with chEn := false }) [0x54#8] []
    (0 : Chan).val < s.cfg.nch ∧ s.hw.ctrl.en = true ∧ s.env.inq[(0 : Chan)] = 0x54#8 :: []
    ∧ false = decide ((s.chan 0).cur.toNat = s.cfg.pktLen - 1) ∧ false = decide (0x54#8 = (s.chan 0).crc)
    ∧ (s.chan 0).chEn = false := by decide

theorem witness_reservedEvents :
    (∃ c st last crcm b, row 0x3BFF#16 = .rxReserved c st last crcm b) ∧ (∃ low, row 0x5FFF#16 = .visitReserved low)
    ∧ ∃ low, row 0xFFFF#16 = .evReserved low := ⟨⟨1, 2#2, true, true, 0xFF#8, rfl⟩, ⟨_, rfl⟩, ⟨_, rfl⟩⟩

theorem witness_rxIsolation :
    IsRxOf 3 (.rxMarker 3 false false)
    ∧ (goesTo (exec (.rxMarker 3 false false) (stage 3 id [0x54#8] []))).isSome = true
    ∧ SameRxView (stage 3 id [0x54#8] []) (stage 3 (fun ch => { ch with posX := 5#16, cntTmo := 9#32 }) [0x54#8] [.pop]) 3
    ∧ (goesTo (exec (.rxMarker 3 false false)
        (stage 3 (fun ch => { ch with posX := 5#16, cntTmo := 9#32 }) [0x54#8] [.pop]))).isSome = true := by
  refine ⟨rfl, by decide, ?_, by decide⟩
  unfold SameRxView
  exact ⟨rfl, rfl, rfl, rfl, rfl, rfl, rfl, rfl, rfl, rfl, rfl, rfl⟩

theorem witness_readyHolds :
    let s := stage 2 holding [0x54#8] [.take 2]
    (s.chan 2).chEn = true ∧ (s.chan 2).st = READY ∧ (goesTo (step s)).isSome = true ∧ s.nextInstr = none := by decide

/-- A channel that has taken n bytes of `packet`, and the machine that offers it the others. -/
def midPacket (n : Nat) (bytes : List Byte) : State :=
  stage 2 (inPacket (BitVec.ofNat 7 n) (crcOf hardware.crc (packet.take n)) 3#16) bytes
    (List.replicate (57 - n) (.take 2) ++ [.pop])

set_option maxRecDepth 8192 in
theorem witness_validPacket :
    let s := stage 2 id (packet ++ [0x54#8]) (List.replicate packet.length (.take 2) ++ [])
    s.cfg.Legal ∧ (2 : Chan).val < s.cfg.nch ∧ s.modelFault = none ∧ s.hw.ctrl.en = true ∧ (s.chan 2).chEn = true
    ∧ Taken s 2 [] ∧ ([] ++ packet).length = s.cfg.pktLen ∧ ([] ++ packet).head? = some s.cfg.marker
    ∧ ([] ++ packet).getLast? = some (crcOf s.cfg.crc (([] ++ packet).take (s.cfg.pktLen - 1)))
    ∧ s.env.inq[(2 : Chan)] = packet ++ [0x54#8]
    ∧ s.env.stim = List.replicate packet.length (.take 2) ++ [] := by
  unfold Taken
  decide

set_option maxRecDepth 8192 in
/-- The last byte alone is still to come. -/
theorem witness_validPacket_tail :
    let q := packet.take 56
    let p := packet.drop 56
    let s := midPacket 56 (p ++ [0x54#8])
    s.cfg.Legal ∧ (2 : Chan).val < s.cfg.nch ∧ s.modelFault = none ∧ s.hw.ctrl.en = true ∧ (s.chan 2).chEn = true
    ∧ Taken s 2 q ∧ (q ++ p).length = s.cfg.pktLen ∧ (q ++ p).head? = some s.cfg.marker
    ∧ (q ++ p).getLast? = some (crcOf s.cfg.crc ((q ++ p).take (s.cfg.pktLen - 1)))
    ∧ s.env.inq[(2 : Chan)] = p ++ [0x54#8] ∧ s.env.stim = List.replicate p.length (.take 2) ++ [.pop] := by
  unfold Taken
  decide

set_option maxRecDepth 8192 in
theorem witness_corruptedPacket :
    let q := packet.take 1
    let p := (packet.take 56).drop 1 ++ [0x00#8]
    let s := midPacket 1 (p ++ [])
    s.cfg.Legal ∧ (2 : Chan).val < s.cfg.nch ∧ s.modelFault = none ∧ s.hw.ctrl.en = true ∧ (s.chan 2).chEn = true
    ∧ Taken s 2 q ∧ (q ++ p).length = s.cfg.pktLen ∧ (q ++ p).head? = some s.cfg.marker
    ∧ (q ++ p).getLast? ≠ some (crcOf s.cfg.crc ((q ++ p).take (s.cfg.pktLen - 1)))
    ∧ s.env.inq[(2 : Chan)] = p ++ [] ∧ s.env.stim = List.replicate p.length (.take 2) ++ [.pop] := by
  unfold Taken
  decide

theorem witness_noMarker :
    let p := [0x00#8, 0x53#8, 0x55#8]
    let s := stage 1 id (p ++ [0x54#8]) (List.replicate p.length (.take 1) ++ [.visit])
    (1 : Chan).val < s.cfg.nch ∧ s.modelFault = none ∧ s.hw.ctrl.en = true ∧ (s.chan 1).chEn = true
    ∧ (s.chan 1).st = SEARCH ∧ s.cfg.marker ∉ p
    ∧ s.env.inq[(1 : Chan)] = p ++ [0x54#8] ∧ s.env.stim = List.replicate p.length (.take 1) ++ [.visit] := by decide

theorem witness_visits :
    (let s := stage 0 id [] []
     s.cfg.Legal ∧ s.hw.ctrl.en = true ∧ s.hw.xf.busy = false ∧ (s.chan s.hw.sp).chEn = true ∧ (s.chan s.hw.sp).st = SEARCH)
    ∧ (let s := stage 0 (fun ch => { ch with chEn := false }) [] []
       s.cfg.Legal ∧ s.hw.ctrl.en = true ∧ s.hw.xf.busy = false ∧ (s.chan s.hw.sp).chEn = false)
    ∧ (let s := stage 0 holding [] []
       s.cfg.Legal ∧ s.hw.ctrl.en = true ∧ s.hw.xf.busy = false ∧ (s.chan s.hw.sp).chEn = true ∧ (s.chan s.hw.sp).st = READY) := by
  decide

/-- The age at its limit, without and with a timeout to reach. -/
theorem witness_ageVisit :
    (let s := stage 0 (inPacket 5#7 0x11#8 0xFFFF#16) [] []
     s.cfg.Legal ∧ s.hw.ctrl.en = true ∧ s.hw.xf.busy = false ∧ (s.chan s.hw.sp).chEn = true ∧ (s.chan s.hw.sp).st = ACCUM
     ∧ ¬(s.hw.tmoRounds.toNat ≠ 0 ∧ s.hw.tmoRounds.toNat ≤ min ((s.chan s.hw.sp).age.toNat + 1) 0xFFFF))
    ∧ (let s' := stage 0 (inPacket 5#7 0x11#8 0xFFFF#16) [] []
       let s : State := { s' with hw := { s'.hw with tmoRounds := 0xFFFF#16 } }
       s.cfg.Legal ∧ s.hw.ctrl.en = true ∧ s.hw.xf.busy = false ∧ (s.chan s.hw.sp).chEn = true ∧ (s.chan s.hw.sp).st = ACCUM
       ∧ s.hw.tmoRounds.toNat ≠ 0 ∧ s.hw.tmoRounds.toNat ≤ min ((s.chan s.hw.sp).age.toNat + 1) 0xFFFF) := by decide

theorem witness_quietRound :
    let s := stage 2 (inPacket 5#7 0x11#8 0xFFFF#16) [] (List.replicate hardware.nch .visit ++ [.pop])
    s.cfg.Legal ∧ s.modelFault = none ∧ s.hw.ctrl.en = true ∧ s.hw.xf.busy = false ∧ s.hw.sp.val = 0
    ∧ s.hw.tmoRounds = 0#16
    ∧ (∀ c : Chan, c.val < s.cfg.nch → (s.chan c).chEn = true → (s.chan c).st = SEARCH ∨ (s.chan c).st = ACCUM)
    ∧ s.env.stim = List.replicate s.cfg.nch .visit ++ [.pop] := by decide

theorem witness_xf :
    (let s := dispatched 11 2499#16 (List.replicate 15 (point 0)) []
     s.hw.xf.busy = true ∧ Accepted s.hw.xf s.hw.xf.k ∧ s.hw.outq.length < s.cfg.outDepth)
    ∧ (let s := dispatched 0 100#16 (List.replicate 16 (point 0)) []
       s.hw.xf.busy = true ∧ ¬Accepted s.hw.xf s.hw.xf.k) := by
  unfold Accepted
  decide

theorem witness_packetTakesTwelve :
    let s := dispatched 0 1000#16 (List.replicate 4 (point 0)) (List.replicate NSAMP .xf ++ [.pop])
    s.modelFault = none ∧ s.hw.xf.busy = true ∧ s.hw.xf.k.val = 0
    ∧ s.hw.outq.length + ((List.finRange NSAMP).filter fun k =>
        acceptSample s.hw.xf.minDist s.hw.xf.maxDist s.hw.xf.minInt s.hw.xf.dist[k] s.hw.xf.inten[k]).length ≤ s.cfg.outDepth
    ∧ s.env.stim = List.replicate NSAMP .xf ++ [.pop] := by decide

theorem witness_pops :
    let s := dispatched 0 1000#16 [point 1, point 2] (List.replicate 2 .pop ++ [.xf])
    s.modelFault = none ∧ 2 ≤ s.hw.outq.length ∧ s.env.stim = List.replicate 2 .pop ++ [.xf]
    ∧ s.hw.outq = point 1 :: [point 2] := by decide

theorem witness_wholeMachine :
    (goesTo (exec .xfReject (dispatched 0 100#16 [point 1] []))).isSome = true
    ∧ Instr.xfReject ≠ .xfAccept ∧ Instr.xfReject ≠ .outPop ∧ Instr.xfReject ≠ .reset
    ∧ Instr.xfReject ≠ .visitDispatch := by decide

/-- An output pop with and without a record, an accepting step with and without room, and RESET go on. -/
theorem witness_movers :
    (goesTo (exec .outPop (dispatched 0 1000#16 [point 1] []))).isSome = true
    ∧ (goesTo (exec .outPop (dispatched 0 1000#16 [] []))).isSome = true
    ∧ (goesTo (exec .xfAccept (dispatched 0 1000#16 [point 1] []))).isSome = true
    ∧ (goesTo (exec .xfAccept (dispatched 0 1000#16 (List.replicate 16 (point 0)) []))).isSome = true
    ∧ (goesTo (exec .reset (dispatched 0 1000#16 [point 1] []))).isSome = true := by decide

theorem witness_countersHold :
    (goesTo (exec .visitIdle State.reset)).isSome = true ∧ State.reset.hw.ctrl.diagEn = false
    ∧ Instr.visitIdle ≠ .reset
    ∧ ∀ c d, Instr.visitIdle ≠ .wrCntOk c d ∧ Instr.visitIdle ≠ .wrCntCrc c d ∧ Instr.visitIdle ≠ .wrCntTmo c d
      ∧ Instr.visitIdle ≠ .wrCntRej c d :=
  ⟨by decide, by decide, by decide, fun _ _ => ⟨nofun, nofun, nofun, nofun⟩⟩

/-- A READY packet that has been counted is accounted for, and its dispatch goes on. -/
theorem witness_accounting :
    let s := stage 0 (fun ch => { holding ch with cntOk := 1#32 }) [] [.visit]
    Accounted s ∧ (goesTo (step s)).isSome = true ∧ s.hw.ctrl.diagEn = true
    ∧ s.nextInstr = some .visitDispatch := by
  unfold Accounted
  decide

/-- The nearest integers to 16384 times the sine: a ROM that meets R164 (c), with entries at most 16384. -/
noncomputable def nearestRom (j : Nat) : Nat :=
  if j ≤ 16384 then (round (16384 * Real.sin (2 * Real.pi * j / 65536))).toNat else 0

theorem witness_romAccurate : RomAccurate nearestRom ∧ ∀ j, j ≤ 16384 → nearestRom j ≤ 16384 := by
  refine ⟨fun j hj => ?_, fun j _ => ?_⟩
  · have h0 : 0 ≤ Real.sin (2 * Real.pi * j / 65536) := by
      have hj' : (j : ℝ) ≤ 16384 := by exact_mod_cast hj
      refine Real.sin_nonneg_of_nonneg_of_le_pi (by positivity) ?_
      have := Real.pi_pos
      rw [div_le_iff₀ (by norm_num)]
      nlinarith
    have hr : 0 ≤ round (16384 * Real.sin (2 * Real.pi * j / 65536)) := by
      rw [round_eq]
      exact Int.floor_nonneg.mpr (by linarith)
    rw [nearestRom, if_pos hj, ← Int.cast_natCast (R := ℝ), Int.toNat_of_nonneg hr, abs_sub_comm]
    exact abs_sub_round _
  · unfold nearestRom
    split
    · have h1 := Real.sin_le_one (2 * Real.pi * j / 65536)
      have : round (16384 * Real.sin (2 * Real.pi * j / 65536)) ≤ 16384 := by
        rw [round_eq, Int.floor_le_iff]
        push_cast
        linarith
      omega
    · omega

theorem witness_pointsAreAccurate : (dispatched 0 65535#16 [] []).hw.xf.posEn = false := by decide

theorem witness_pointBounds : ∀ j, j ≤ 16384 → (fun j => min j 16384) j ≤ 16384 := fun j _ => min_le_right j 16384

theorem witness_trigRom :
    let rom : Nat → Nat := fun j => min j 16384
    rom 0 = 0 ∧ rom 16384 = 16384 ∧ ∀ i j, i ≤ j → j ≤ 16384 → rom i ≤ rom j :=
  ⟨by decide, by decide, fun _ _ h _ => min_le_min_right _ h⟩

theorem witness_filter : (5#16).toNat ≤ (4#16).toNat + 1 := by decide

theorem witness_crc : (fun _ : Byte => 0x00#8) 0x00#8 = 0x00#8 := rfl

end Sys2Proof.Tests
end

