-- ==== Sys2Proof/Proofs/Scope.lean ====
section
/-!
PROOF. The step of the machine (00_scope.md R10): it runs the instruction of the next event, or the turn passes.
-/

namespace Sys2Proof.Machine

/-! ## A turn that passes

The turn is either the environment's, whose bytes arrive, or it is only used up (log 2). -/

theorem State.noStep_of_rx {s : State} {c : Chan} {bytes : List Byte} {rest : List Stimulus}
    (h : s.env.stim = .rx c bytes :: rest) : s.noStep = s.endTurn.offerBytes c bytes := by
  simp only [State.noStep, h]

theorem State.noStep_of_not_rx {s : State}
    (h : ∀ (c : Chan) (bytes : List Byte) (rest : List Stimulus), s.env.stim ≠ .rx c bytes :: rest) :
    s.noStep = s.endTurn := by
  unfold State.noStep
  split
  next c bytes rest hrx => exact absurd hrx (h c bytes rest)
  next => rfl

theorem State.noStep_cases (s : State) :
    s.noStep = s.endTurn ∨ ∃ c bytes, s.noStep = s.endTurn.offerBytes c bytes := by
  by_cases h : ∃ c bytes rest, s.env.stim = .rx c bytes :: rest
  · obtain ⟨c, bytes, rest, hrx⟩ := h
    exact .inr ⟨c, bytes, noStep_of_rx hrx⟩
  · push Not at h
    exact .inl (noStep_of_not_rx h)

/-- Of the environment, a passed turn moves the stimulus list and the input queues and clears the trace label. -/
theorem State.noStep_env (s : State) :
    s.noStep.env = { s.env with stim := s.env.stim.tail, raised := .none, inq := s.noStep.env.inq } := by
  obtain h | ⟨c, bytes, h⟩ := s.noStep_cases
  · rw [h]; rfl
  · rw [h]; rfl

/-! ## The obligations on a step -/

/-- Settles O5: the turn that is used up is `State.endTurn`. -/
theorem stepRunsDecodedEvent : Obligations.StepRunsDecodedEvent := by
  intro s e hfault hevent
  exact step_of_instr hfault (State.nextInstr_some hevent)

/-- Settles O8: the step answers `State.noStep`, which appends the environment's bytes where the turn is RX. -/
theorem passedTurnChangesNothing : Obligations.PassedTurnChangesNothing := by
  intro s hfault hevent
  have hstep : step s = .next s.noStep := step_of_none hfault (State.nextInstr_none hevent)
  refine ⟨s.noStep, hstep, s.noStep_cfg, s.noStep_hw, s.noStep_modelFault.trans hfault, s.noStep_env, fun c => ?_⟩
  split
  next d bytes rest hrx =>
    rw [State.noStep_of_rx hrx, State.inq_offerBytes]
    by_cases hcd : c = d
    · subst hcd; simp
    · simp [hcd]
  next hother =>
    rw [State.noStep_of_not_rx hother, State.endTurn_env_inq, List.append_nil]

end Sys2Proof.Machine
end

/-!
PROOF. The state of the block (10_state.md): what a step can do to it, said once for every row as an inductive relation and
then part by part (channels, pointer, transform unit, OUTQ, registers), and from that the configuration freeze (R30), what
moves a record (R26), when the latches change (R25), and the invariant (R23).
-/

namespace Sys2Proof.Machine

/-! ## What a step can do to one channel -/

/-- The rows that change channel c's state, each with what it makes of it and the condition it changes it under. -/
inductive ChannelStep (s : State) : Instr → Chan → Channel → Prop
  /-- R244, CH_EN set or as it was at 0 -/
  | wrChCfg (c : Chan) (d : Word) (hen : s.hw.ctrl.en = false) (hkeep : ((s.chan c).chEn && !d.getLsbD 8) = false) :
      ChannelStep s (.wrChCfg c d) c { s.chan c with devId := d.extractLsb' 0 8, chEn := d.getLsbD 8 }
  /-- R244, CH_EN cleared -/
  | wrChCfgOff (c : Chan) (d : Word) (hen : s.hw.ctrl.en = false) (hclear : ((s.chan c).chEn && !d.getLsbD 8) = true) :
      ChannelStep s (.wrChCfg c d) c { (s.chan c).toSearch with devId := d.extractLsb' 0 8, chEn := d.getLsbD 8 }
  /-- R245 -/
  | wrChAng (c : Chan) (d : Word) (hen : s.hw.ctrl.en = false) :
      ChannelStep s (.wrChAng c d) c { s.chan c with angOff := d.extractLsb' 0 16 }
  /-- R246 -/
  | wrChPos (c : Chan) (d : Word) (hen : s.hw.ctrl.en = false) :
      ChannelStep s (.wrChPos c d) c { s.chan c with posX := d.extractLsb' 0 16, posY := d.extractLsb' 16 16 }
  /-- R248 -/
  | wrCntOk (c : Chan) (d : Word) : ChannelStep s (.wrCntOk c d) c { s.chan c with cntOk := d }
  /-- R249 -/
  | wrCntCrc (c : Chan) (d : Word) : ChannelStep s (.wrCntCrc c d) c { s.chan c with cntCrc := d }
  /-- R250 -/
  | wrCntTmo (c : Chan) (d : Word) : ChannelStep s (.wrCntTmo c d) c { s.chan c with cntTmo := d }
  /-- R251 -/
  | wrCntRej (c : Chan) (d : Word) : ChannelStep s (.wrCntRej c d) c { s.chan c with cntRej := d }
  /-- R131 -/
  | rxMarker (c : Chan) (last crcm : Bool) (hforms : s.rxForms c true SEARCH last crcm s.cfg.marker = true) :
      ChannelStep s (.rxMarker c last crcm) c
        { s.chan c with
          buf := (s.chan c).buf.write 0 s.cfg.marker, crc := crcStep s.cfg.crc 0x00#8 s.cfg.marker
          cur := 1#7, age := 0#16, st := ACCUM }
  /-- R132 -/
  | rxData (c : Chan) (crcm : Bool) (b : Byte) (hforms : s.rxForms c true ACCUM false crcm b = true)
      (hcur : (s.chan c).cur.toNat < s.cfg.pktLen) :
      ChannelStep s (.rxData c crcm b) c
        { s.chan c with
          buf := (s.chan c).buf.write (s.chan c).cur.toNat b, crc := crcStep s.cfg.crc (s.chan c).crc b
          cur := (s.chan c).cur + 1#7 }
  /-- R133 -/
  | rxCheckOk (c : Chan) (b : Byte) (hforms : s.rxForms c true ACCUM true true b = true) :
      ChannelStep s (.rxCheckOk c b) c
        { s.chan c with
          buf := (s.chan c).buf.write (s.cfg.pktLen - 1) b, cur := BitVec.ofNat 7 s.cfg.pktLen, st := READY
          cntOk := countUp s.hw.ctrl.diagEn (s.chan c).cntOk }
  /-- R136 -/
  | rxCheckBad (c : Chan) (b : Byte) (hforms : s.rxForms c true ACCUM true false b = true) :
      ChannelStep s (.rxCheckBad c b) c
        { (s.chan c).toSearch with cntCrc := countUp s.hw.ctrl.diagEn (s.chan c).cntCrc }
  /-- R192 without a timeout -/
  | aged (hforms : s.visitForms true ACCUM = true)
      (hage : timedOut s.hw.tmoRounds (nextAge (s.chan s.hw.sp).age) = false) :
      ChannelStep s .visitAge s.hw.sp { s.chan s.hw.sp with age := nextAge (s.chan s.hw.sp).age }
  /-- R192 with a timeout -/
  | timeout (hforms : s.visitForms true ACCUM = true)
      (hage : timedOut s.hw.tmoRounds (nextAge (s.chan s.hw.sp).age) = true) :
      ChannelStep s .visitAge s.hw.sp
        { (s.chan s.hw.sp).toSearch with cntTmo := countUp s.hw.ctrl.diagEn (s.chan s.hw.sp).cntTmo }
  /-- R191 -/
  | dispatch (hforms : s.visitForms true READY = true) :
      ChannelStep s .visitDispatch s.hw.sp (s.chan s.hw.sp).toSearch
  /-- R204 -/
  | xfReject (hforms : s.xfForms false = true) :
      ChannelStep s .xfReject s.hw.xf.ch
        { s.chan s.hw.xf.ch with cntRej := countUp s.hw.ctrl.diagEn (s.chan s.hw.xf.ch).cntRej }

/-! ## What a step can do to the block -/

/-- The block that an instruction can leave behind, one constructor per shape of change. -/
inductive BlockStep (s : State) : Instr → Block → Prop
  /-- nothing of the block changes: a read, a write without effect, a byte thrown away, a reserved word, or a row whose
  step does not exist (log 2) -/
  | keeps {i : Instr} (hreset : i ≠ .reset) (hpop : i ≠ .outPop) : BlockStep s i s.hw
  /-- R238 -/
  | wrCtrl (d : Word) :
      BlockStep s (.wrCtrl d)
        { s.hw with ctrl :=
          { en := d.getLsbD 0
            wrapFix := if s.hw.ctrl.en then s.hw.ctrl.wrapFix else d.getLsbD 1
            posEn := if s.hw.ctrl.en then s.hw.ctrl.posEn else d.getLsbD 2
            diagEn := d.getLsbD 3 } }
  /-- R241 -/
  | wrFiltDist (d : Word) (hen : s.hw.ctrl.en = false) :
      BlockStep s (.wrFiltDist d) { s.hw with minDist := d.extractLsb' 0 16, maxDist := d.extractLsb' 16 16 }
  /-- R242 -/
  | wrFiltInt (d : Word) (hen : s.hw.ctrl.en = false) :
      BlockStep s (.wrFiltInt d) { s.hw with minInt := d.extractLsb' 0 8 }
  /-- R243 -/
  | wrTimeout (d : Word) (hen : s.hw.ctrl.en = false) :
      BlockStep s (.wrTimeout d) { s.hw with tmoRounds := d.extractLsb' 0 16 }
  /-- a BUS or RX row that changes one channel and nothing else of the block -/
  | channel {i : Instr} {c : Chan} {ch : Channel} (hclass : i.classes = [0b000#3] ∨ i.classes = [0b001#3])
      (hch : ChannelStep s i c ch) : BlockStep s i (s.hw.setChan c ch)
  /-- R193 -/
  | visitIdle (hforms : s.visitForms true SEARCH = true) : BlockStep s .visitIdle (s.hw.advancePointer s.cfg.nch)
  /-- R194 -/
  | visitOff (st : BitVec 2) (hforms : s.visitForms false st = true) :
      BlockStep s (.visitOff st) (s.hw.advancePointer s.cfg.nch)
  /-- R192 -/
  | visitAge {ch : Channel} (hch : ChannelStep s .visitAge s.hw.sp ch) :
      BlockStep s .visitAge ((s.hw.setChan s.hw.sp ch).advancePointer s.cfg.nch)
  /-- R191 -/
  | visitDispatch (hforms : s.visitForms true READY = true) :
      BlockStep s .visitDispatch
        (((s.hw.setChan s.hw.sp (s.chan s.hw.sp).toSearch).setXf (s.hw.latch s.hw.sp)).advancePointer s.cfg.nch)
  /-- R204 -/
  | xfReject {ch : Channel} (hforms : s.xfForms false = true) (hch : ChannelStep s .xfReject s.hw.xf.ch ch) :
      BlockStep s .xfReject ((s.hw.setChan s.hw.xf.ch ch).setXf s.hw.xf.advance)
  /-- R203 -/
  | xfAccept (hforms : s.xfForms true = true) :
      BlockStep s .xfAccept ((s.hw.push (s.hw.xf.point s.cfg.sine s.hw.xf.k)).setXf s.hw.xf.advance)
  /-- R205, an empty OUTQ included -/
  | outPop : BlockStep s .outPop { s.hw with outq := s.hw.outq.tail }
  /-- R290 -/
  | reset : BlockStep s .reset Block.reset

/-! ## Every step of the model is one of these -/

/-- What holds of the state t after instruction i: the configuration stays, the block changes as `BlockStep` says, and
nothing but an output pop delivers a record. -/
structure Effect (s : State) (i : Instr) (t : State) : Prop where
  cfg : t.cfg = s.cfg
  hw : BlockStep s i t.hw
  delivered : i ≠ .outPop → t.env.delivered = s.env.delivered

section
variable {s t u : State} {i : Instr}

/-- A row that answers a state u that keeps the configuration and delivers nothing. -/
theorem Effect.of_next (h : Host.Outcome.next (φ := Fault) (ρ := Refusal) u = .next t)
    (hcfg : u.cfg = s.cfg) (hhw : BlockStep s i u.hw) (hdel : u.env.delivered = s.env.delivered) : Effect s i t := by
  obtain rfl := Host.Outcome.next.inj h
  exact ⟨hcfg, hhw, fun _ => hdel⟩

/-- A write of CFG fields has its row's effect while CTRL.EN = 0, and none otherwise (10_state.md R30). -/
theorem Effect.of_writeCfg {f : Block → Block} (hreset : i ≠ .reset) (hpop : i ≠ .outPop)
    (h : Host.Outcome.next (φ := Fault) (ρ := Refusal) (s.writeCfg f) = .next t)
    (hrow : s.hw.ctrl.en = false → BlockStep s i (f s.hw)) : Effect s i t := by
  cases hen : s.hw.ctrl.en with
  | true =>
    rw [State.writeCfg_frozen f hen] at h
    exact .of_next h rfl (.keeps hreset hpop) rfl
  | false =>
    rw [State.writeCfg_open f hen] at h
    exact .of_next h rfl (hrow hen) rfl

/-- A row guarded by the existence of its step has its effect where the guard holds, and none otherwise (log 2). -/
theorem Effect.of_guarded {guard : Prop} [Decidable guard] {o : Host.Outcome State Fault Refusal}
    (hreset : i ≠ .reset) (hpop : i ≠ .outPop) (h : (if guard then o else .next s) = .next t)
    (hrow : guard → o = .next t → Effect s i t) : Effect s i t := by
  split at h
  next hguard => exact hrow hguard h
  next => exact .of_next h rfl (.keeps hreset hpop) rfl

/-- OUT_POP (R205): the head of OUTQ, where there is one, leaves it and is delivered. -/
theorem exec_outPop (s : State) :
    exec .outPop s = .next { s with
      hw := { s.hw with outq := s.hw.outq.tail }
      env := { s.env with delivered := s.env.delivered ++ s.hw.outq.take 1 } } := by
  show execOutPop s = _
  unfold execOutPop
  split
  next hempty => rw [hempty, List.tail_nil, List.take_nil, List.append_nil, ← hempty]
  next r rest hcons => rw [hcons]; rfl

/-- CH_CFG (R244): its effect while CTRL.EN = 0. -/
theorem blockStep_wrChCfg (c : Chan) (d : Word) (hen : s.hw.ctrl.en = false) :
    BlockStep s (.wrChCfg c d) (s.hw.setChan c
      { (if (s.chan c).chEn && !d.getLsbD 8 then (s.chan c).toSearch else s.chan c) with
        devId := d.extractLsb' 0 8, chEn := d.getLsbD 8 }) := by
  split
  next hclear => exact .channel (.inl rfl) (.wrChCfgOff c d hen hclear)
  next hkeep => exact .channel (.inl rfl) (.wrChCfg c d hen (by simpa using hkeep))

/-- The inversion of `exec`: where it answers a next state, that state is one that `Effect` names. -/
theorem exec_effect (h : exec i s = .next t) : Effect s i t := by
  cases i with
  | rdId | rdCtrl | rdStatus | rdRound | rdFiltDist | rdFiltInt | rdTimeout | rdChCfg | rdChAng | rdChPos | rdChStat
  | rdCntOk | rdCntCrc | rdCntTmo | rdCntRej | rdUnmapped | wrId | wrStatus | wrRound | wrChStat | wrUnmapped
  | rxReserved | visitReserved | evReserved => exact .of_next h rfl (.keeps nofun nofun) rfl
  | wrCtrl d => exact .of_next h rfl (.wrCtrl d) rfl
  | wrFiltDist d => exact .of_writeCfg nofun nofun h (.wrFiltDist d)
  | wrFiltInt d => exact .of_writeCfg nofun nofun h (.wrFiltInt d)
  | wrTimeout d => exact .of_writeCfg nofun nofun h (.wrTimeout d)
  | wrChCfg c d => exact .of_writeCfg nofun nofun h (blockStep_wrChCfg c d)
  | wrChAng c d => exact .of_writeCfg nofun nofun h fun hen => .channel (.inl rfl) (.wrChAng c d hen)
  | wrChPos c d => exact .of_writeCfg nofun nofun h fun hen => .channel (.inl rfl) (.wrChPos c d hen)
  | wrCntOk c d => exact .of_next h rfl (.channel (.inl rfl) (.wrCntOk c d)) rfl
  | wrCntCrc c d => exact .of_next h rfl (.channel (.inl rfl) (.wrCntCrc c d)) rfl
  | wrCntTmo c d => exact .of_next h rfl (.channel (.inl rfl) (.wrCntTmo c d)) rfl
  | wrCntRej c d => exact .of_next h rfl (.channel (.inl rfl) (.wrCntRej c d)) rfl
  | rxDrain | rxSkip => exact .of_guarded nofun nofun h fun _ ho => .of_next ho rfl (.keeps nofun nofun) rfl
  | rxMarker c last crcm =>
    exact .of_guarded nofun nofun h fun hforms ho =>
      .of_next ho rfl (.channel (.inr rfl) (.rxMarker c last crcm hforms)) rfl
  | rxData c crcm b =>
    refine .of_guarded nofun nofun h fun hforms ho => ?_
    split at ho
    next hcur => exact .of_next ho rfl (.channel (.inr rfl) (.rxData c crcm b hforms hcur)) rfl
    next => cases ho
  | rxCheckOk c b =>
    exact .of_guarded nofun nofun h fun hforms ho => .of_next ho rfl (.channel (.inr rfl) (.rxCheckOk c b hforms)) rfl
  | rxCheckBad c b =>
    exact .of_guarded nofun nofun h fun hforms ho => .of_next ho rfl (.channel (.inr rfl) (.rxCheckBad c b hforms)) rfl
  | visitOff st => exact .of_guarded nofun nofun h fun hforms ho => .of_next ho rfl (.visitOff st hforms) rfl
  | visitIdle => exact .of_guarded nofun nofun h fun hforms ho => .of_next ho rfl (.visitIdle hforms) rfl
  | visitAge =>
    refine .of_guarded nofun nofun h fun hforms ho => ?_
    split at ho
    next hage => exact .of_next ho rfl (.visitAge (.timeout hforms hage)) rfl
    next hage => exact .of_next ho rfl (.visitAge (.aged hforms (by simpa using hage))) rfl
  | visitDispatch => exact .of_guarded nofun nofun h fun hforms ho => .of_next ho rfl (.visitDispatch hforms) rfl
  | xfReject =>
    exact .of_guarded nofun nofun h fun hforms ho => .of_next ho rfl (.xfReject hforms (.xfReject hforms)) rfl
  | xfAccept => exact .of_guarded nofun nofun h fun hforms ho => .of_next ho rfl (.xfAccept hforms) rfl
  | outPop =>
    obtain rfl := Host.Outcome.next.inj ((exec_outPop s).symm.trans h)
    exact ⟨rfl, .outPop, fun hpop => absurd rfl hpop⟩
  | reset => exact .of_next h rfl .reset rfl

/-- One step of the machine (00_scope.md R10): it ran the next event's instruction with its effect, or the turn passed and
the block and the configuration stay (log 2). -/
theorem step_effect (h : step s = .next t) :
    (∃ i, s.nextInstr = some i ∧ Effect s.endTurn i t) ∨ (t.hw = s.hw ∧ t.cfg = s.cfg) := by
  obtain ⟨-, ⟨i, hi, hexec⟩ | ⟨-, rfl⟩⟩ := step_next_cases h
  · exact .inl ⟨i, hi, exec_effect hexec⟩
  · exact .inr ⟨s.noStep_hw, s.noStep_cfg⟩

end

/-! ## Part by part: the channels, the pointer, the transform unit and OUTQ -/

@[simp] theorem Block.chan_reset (c : Chan) : Block.reset.chan c = Channel.reset c := by
  simp [Block.chan, Block.reset]

theorem Block.chan_setChan_cases (b : Block) (c d : Chan) (ch : Channel) :
    (b.setChan c ch).chan d = b.chan d ∨ (d = c ∧ (b.setChan c ch).chan d = ch) := by
  by_cases hdc : d = c
  · subst hdc; exact .inr ⟨rfl, Block.chan_setChan_same ..⟩
  · exact .inl (Block.chan_setChan_other _ _ hdc)

section
variable {s : State} {i : Instr} {b : Block} {c : Chan} {ch : Channel}

/-- A channel's state after a step: as it was, or by a row of `ChannelStep`, or its reset state. -/
theorem BlockStep.chan_cases (h : BlockStep s i b) (d : Chan) :
    b.chan d = s.chan d ∨ ChannelStep s i d (b.chan d) ∨ (i = .reset ∧ b.chan d = Channel.reset d) := by
  have set_cases {c : Chan} {ch : Channel} (hch : ChannelStep s i c ch) :
      (s.hw.setChan c ch).chan d = s.chan d ∨ ChannelStep s i d ((s.hw.setChan c ch).chan d) := by
    obtain hd | ⟨rfl, hd⟩ := s.hw.chan_setChan_cases c d ch
    · exact .inl hd
    · rw [hd]; exact .inr hch
  cases h with
  | channel hclass hch => exact (set_cases hch).imp_right .inl
  | visitAge hch => exact (set_cases hch).imp_right .inl
  | visitDispatch hforms => exact (set_cases (.dispatch hforms)).imp_right .inl
  | xfReject hforms hch => exact (set_cases hch).imp_right .inl
  | reset => exact .inr (.inr ⟨rfl, Block.chan_reset d⟩)
  | _ => exact .inl rfl

theorem BlockStep.sp_cases (h : BlockStep s i b) :
    b.sp = s.hw.sp ∨ b.sp = nextChan s.cfg.nch s.hw.sp ∨ b.sp = 0 := by
  cases h with
  | visitIdle | visitOff | visitAge | visitDispatch => exact .inr (.inl rfl)
  | reset => exact .inr (.inr rfl)
  | _ => exact .inl rfl

/-- The transform unit after a step: as it was, a sample further (44_scheduler.md R202), loaded by a dispatch (R191), or
reset. -/
theorem BlockStep.xf_cases (h : BlockStep s i b) :
    b.xf = s.hw.xf ∨ (s.hw.xf.busy = true ∧ b.xf = s.hw.xf.advance)
    ∨ (i = .visitDispatch ∧ b.xf = s.hw.latch s.hw.sp) ∨ (i = .reset ∧ b.xf = Xform.reset) := by
  cases h with
  | visitDispatch => exact .inr (.inr (.inl ⟨rfl, rfl⟩))
  | xfReject hforms => exact .inr (.inl ⟨((s.xfForms_iff false).mp hforms).1, rfl⟩)
  | xfAccept hforms => exact .inr (.inl ⟨((s.xfForms_iff true).mp hforms).1, rfl⟩)
  | reset => exact .inr (.inr (.inr ⟨rfl, rfl⟩))
  | _ => exact .inl rfl

/-- OUTQ after a step: as it was, one point longer by an accepting step, without its head after a pop, or emptied. -/
theorem BlockStep.outq_cases (h : BlockStep s i b) :
    b.outq = s.hw.outq
    ∨ (i = .xfAccept ∧ s.xfForms true = true ∧ b.outq = s.hw.outq ++ [s.hw.xf.point s.cfg.sine s.hw.xf.k])
    ∨ (i = .outPop ∧ b.outq = s.hw.outq.tail) ∨ (i = .reset ∧ b.outq = []) := by
  cases h with
  | xfAccept hforms => exact .inr (.inl ⟨rfl, hforms, rfl⟩)
  | outPop => exact .inr (.inr (.inl ⟨rfl, rfl⟩))
  | reset => exact .inr (.inr (.inr ⟨rfl, rfl⟩))
  | _ => exact .inl rfl

/-! ## The configuration freeze

A CFG field is as it was, or its register was written while CTRL.EN = 0 (10_state.md R30). -/

theorem BlockStep.filtDist_frozen (h : BlockStep s i b) (hreset : i ≠ .reset) :
    (b.minDist = s.hw.minDist ∧ b.maxDist = s.hw.maxDist) ∨ (s.hw.ctrl.en = false ∧ ∃ d, i = .wrFiltDist d) := by
  cases h with
  | wrFiltDist d hen => exact .inr ⟨hen, d, rfl⟩
  | reset => exact absurd rfl hreset
  | _ => exact .inl ⟨rfl, rfl⟩

theorem BlockStep.filtInt_frozen (h : BlockStep s i b) (hreset : i ≠ .reset) :
    b.minInt = s.hw.minInt ∨ (s.hw.ctrl.en = false ∧ ∃ d, i = .wrFiltInt d) := by
  cases h with
  | wrFiltInt d hen => exact .inr ⟨hen, d, rfl⟩
  | reset => exact absurd rfl hreset
  | _ => exact .inl rfl

theorem BlockStep.timeout_frozen (h : BlockStep s i b) (hreset : i ≠ .reset) :
    b.tmoRounds = s.hw.tmoRounds ∨ (s.hw.ctrl.en = false ∧ ∃ d, i = .wrTimeout d) := by
  cases h with
  | wrTimeout d hen => exact .inr ⟨hen, d, rfl⟩
  | reset => exact absurd rfl hreset
  | _ => exact .inl rfl

theorem BlockStep.ctrl_frozen (h : BlockStep s i b) (hreset : i ≠ .reset) :
    (b.ctrl.wrapFix = s.hw.ctrl.wrapFix ∧ b.ctrl.posEn = s.hw.ctrl.posEn)
    ∨ (s.hw.ctrl.en = false ∧ ∃ d, i = .wrCtrl d) := by
  cases h with
  | wrCtrl d =>
    cases hen : s.hw.ctrl.en with
    | false => exact .inr ⟨rfl, d, rfl⟩
    | true => exact .inl ⟨rfl, rfl⟩
  | reset => exact absurd rfl hreset
  | _ => exact .inl ⟨rfl, rfl⟩

theorem ChannelStep.chCfg_frozen (h : ChannelStep s i c ch) :
    (ch.devId = (s.chan c).devId ∧ ch.chEn = (s.chan c).chEn) ∨ (s.hw.ctrl.en = false ∧ ∃ d, i = .wrChCfg c d) := by
  cases h with
  | wrChCfg c d hen | wrChCfgOff c d hen => exact .inr ⟨hen, d, rfl⟩
  | _ => exact .inl ⟨rfl, rfl⟩

theorem ChannelStep.chAng_frozen (h : ChannelStep s i c ch) :
    ch.angOff = (s.chan c).angOff ∨ (s.hw.ctrl.en = false ∧ ∃ d, i = .wrChAng c d) := by
  cases h with
  | wrChAng c d hen => exact .inr ⟨hen, d, rfl⟩
  | _ => exact .inl rfl

theorem ChannelStep.chPos_frozen (h : ChannelStep s i c ch) :
    (ch.posX = (s.chan c).posX ∧ ch.posY = (s.chan c).posY) ∨ (s.hw.ctrl.en = false ∧ ∃ d, i = .wrChPos c d) := by
  cases h with
  | wrChPos c d hen => exact .inr ⟨hen, d, rfl⟩
  | _ => exact .inl ⟨rfl, rfl⟩

/-- Other than by RESET, a channel's state stays or is that of a row of `ChannelStep`. -/
theorem BlockStep.chan_cases_of_ne_reset (h : BlockStep s i b) (hreset : i ≠ .reset)
    (c : Chan) : b.chan c = s.chan c ∨ ChannelStep s i c (b.chan c) :=
  (h.chan_cases c).imp_right fun hc => hc.resolve_right fun ⟨hi, _⟩ => hreset hi

end

/-- Settles O23: `BlockStep` names one row for each register that holds a CFG field. -/
theorem configurationFrozenWhileEnabled : Obligations.ConfigurationFrozenWhileEnabled := by
  intro s t hstep hnext writtenBy
  obtain ⟨i, hi, -, hb, -⟩ | ⟨hhw, -⟩ := step_effect hstep
  · have hreset : i ≠ .reset := fun he => hnext (he ▸ hi)
    have written {row : Word → Instr} (hrow : s.hw.ctrl.en = false ∧ ∃ d, i = row d) : writtenBy row :=
      hrow.imp_right fun ⟨d, hd⟩ => ⟨d, hd ▸ hi⟩
    refine ⟨fun hne => written ((hb.filtDist_frozen hreset).resolve_left (not_and_or.mpr hne)),
      fun hne => written ((hb.filtInt_frozen hreset).resolve_left hne),
      fun hne => written ((hb.timeout_frozen hreset).resolve_left hne),
      fun hne => written ((hb.ctrl_frozen hreset).resolve_left (not_and_or.mpr hne)), fun c => ?_⟩
    obtain hsame | hch := hb.chan_cases_of_ne_reset hreset c
    · simp [State.chan_eq t, hsame]
    · exact ⟨fun hne => written (hch.chCfg_frozen.resolve_left (not_and_or.mpr hne)),
        fun hne => written (hch.chAng_frozen.resolve_left hne),
        fun hne => written (hch.chPos_frozen.resolve_left (not_and_or.mpr hne))⟩
  · simp [State.chan_eq, hhw]

/-! ## Records and latches -/

/-- Settles O44: the pop by its equation, the other rows by what a step can do to OUTQ. -/
theorem onlyAcceptAndPopMoveRecords : Obligations.OnlyAcceptAndPopMoveRecords := by
  intro i s t h
  obtain ⟨-, hb, hdelivered⟩ := exec_effect h
  refine ⟨?_, ?_, ?_, ?_, hdelivered⟩
  · rintro rfl
    obtain rfl := Host.Outcome.next.inj ((exec_outPop s).symm.trans h)
    exact ⟨rfl, rfl⟩
  · rintro rfl
    obtain hsame | ⟨-, -, hpush⟩ | ⟨hi, -⟩ | ⟨hi, -⟩ := hb.outq_cases
    · exact .inl hsame
    · exact .inr ⟨_, hpush⟩
    · cases hi
    · cases hi
  · rintro rfl
    obtain rfl := Host.Outcome.next.inj h
    rfl
  · intro haccept hpop hreset
    obtain hsame | ⟨hi, -⟩ | ⟨hi, -⟩ | ⟨hi, -⟩ := hb.outq_cases
    · exact hsame
    · exact absurd hi haccept
    · exact absurd hi hpop
    · exact absurd hi hreset

/-- Settles O45: what else changes the transform unit is an XF step, which only advances the sample index
(44_scheduler.md R202). -/
theorem latchesChangeOnlyAtDispatch : Obligations.LatchesChangeOnlyAtDispatch := by
  intro i s t h hdispatch hreset
  obtain hsame | ⟨-, hadvance⟩ | ⟨hi, -⟩ | ⟨hi, -⟩ := (exec_effect h).hw.xf_cases
  · rw [hsame]
  · rw [hadvance]; exact s.hw.xf.advance_advanced.1
  · exact absurd hi hdispatch
  · exact absurd hi hreset

/-! ## The invariant of a channel -/

section
variable {cfg : Config} {ch : Channel}

/-- A channel inside a packet meets the invariant by the clause of ACCUM alone (10_state.md R23). -/
theorem Channel.inv_of_accum (hst : ch.st = ACCUM) (hen : ch.chEn = true)
    (hbuf : ch.buf.wf cfg.pktLen) (hpos : 1 ≤ ch.cur.toNat) (hcur : ch.cur.toNat ≤ cfg.pktLen - 1)
    (hmarker : ch.buf.read 0 = cfg.marker) (hcrc : ch.crc = crcOf cfg.crc (ch.buf.first ch.cur.toNat)) : ch.Inv cfg :=
  ⟨hbuf, by simp [hst, ACCUM], by simp [hen], by simp [hst, ACCUM, SEARCH], fun _ => ⟨hpos, hcur, hmarker, hcrc⟩,
    by simp [hst, ACCUM, READY]⟩

/-- A channel with a whole packet meets the invariant by the clause of READY alone (10_state.md R23). -/
theorem Channel.inv_of_ready (hst : ch.st = READY) (hen : ch.chEn = true)
    (hbuf : ch.buf.wf cfg.pktLen) (hcur : ch.cur.toNat = cfg.pktLen) (hmarker : ch.buf.read 0 = cfg.marker)
    (hcrc : crcOf cfg.crc (ch.buf.first (cfg.pktLen - 1)) = ch.buf.read (cfg.pktLen - 1)) : ch.Inv cfg :=
  ⟨hbuf, by simp [hst, READY], by simp [hen], by simp [hst, READY, SEARCH], by simp [hst, READY, ACCUM],
    fun _ => ⟨hcur, hmarker, hcrc⟩⟩

/-- What the invariant says of a channel inside a packet. -/
theorem Channel.Inv.accum (h : ch.Inv cfg) (hst : ch.st = ACCUM) :
    ch.buf.wf cfg.pktLen ∧ 1 ≤ ch.cur.toNat ∧ ch.cur.toNat ≤ cfg.pktLen - 1 ∧ ch.buf.read 0 = cfg.marker
    ∧ ch.crc = crcOf cfg.crc (ch.buf.first ch.cur.toNat) := by
  obtain ⟨hbuf, -, -, -, haccum, -⟩ := h
  exact ⟨hbuf, haccum hst⟩

/-- RX_MARKER (R131): the buffer starts with the marker, and the CRC is that of the one byte. -/
theorem Channel.inv_rxMarker (hlegal : cfg.Legal) (h : ch.Inv cfg) (hen : ch.chEn = true) :
    Channel.Inv cfg
      { ch with
        buf := ch.buf.write 0 cfg.marker, crc := crcStep cfg.crc 0x00#8 cfg.marker, cur := 1#7, age := 0#16
        st := ACCUM } := by
  obtain ⟨hbuf, -⟩ := h
  obtain ⟨-, -, hlen, -⟩ := hlegal
  refine inv_of_accum rfl hen (Memory.wf_write _ hbuf (by omega)) (by simp) ?_ (Memory.read_write_same ..) ?_
  · show (1#7).toNat ≤ _
    simp only [BitVec.toNat_ofNat]; omega
  · show _ = crcOf cfg.crc ((ch.buf.write 0 cfg.marker).first 1)
    rw [Memory.first_succ_write]; rfl

/-- RX_DATA (R132): before the last byte, the cursor and the CRC take one byte more. -/
theorem Channel.inv_rxData (hlegal : cfg.Legal) (h : ch.Inv cfg) (hen : ch.chEn = true)
    (hst : ch.st = ACCUM) (hlast : ch.atLast cfg.pktLen = false) (b : Byte) :
    Channel.Inv cfg
      { ch with
        buf := ch.buf.write ch.cur.toNat b, crc := crcStep cfg.crc ch.crc b, cur := ch.cur + 1#7 } := by
  obtain ⟨hbuf, hpos, hcur, hmarker, hcrc⟩ := h.accum hst
  obtain ⟨-, -, hlen, hlen', -⟩ := hlegal
  have hbefore : ch.cur.toNat ≠ cfg.pktLen - 1 := by simpa [Channel.atLast] using hlast
  have hnext : (ch.cur + 1#7).toNat = ch.cur.toNat + 1 := by
    rw [BitVec.toNat_add, BitVec.toNat_ofNat]; omega
  refine inv_of_accum hst hen (Memory.wf_write _ hbuf (by omega)) ?_ ?_ ?_ ?_
  · show 1 ≤ (ch.cur + 1#7).toNat
    omega
  · show (ch.cur + 1#7).toNat ≤ _
    omega
  · exact (Memory.read_write_other _ _ (by omega)).trans hmarker
  · show _ = crcOf cfg.crc ((ch.buf.write ch.cur.toNat b).first (ch.cur + 1#7).toNat)
    rw [hnext, Memory.first_succ_write, crcOf_snoc, ← hcrc]

/-- RX_CHECK_OK (R133): the last byte is stored behind the bytes whose CRC it is. -/
theorem Channel.inv_rxCheckOk (hlegal : cfg.Legal) (h : ch.Inv cfg) (hen : ch.chEn = true)
    (hst : ch.st = ACCUM) (hlast : ch.atLast cfg.pktLen = true) (n : Word) :
    Channel.Inv cfg
      { ch with
        buf := ch.buf.write (cfg.pktLen - 1) ch.crc, cur := BitVec.ofNat 7 cfg.pktLen, st := READY, cntOk := n } := by
  obtain ⟨hbuf, -, -, hmarker, hcrc⟩ := h.accum hst
  obtain ⟨-, -, hlen, hlen', -⟩ := hlegal
  have hcur : ch.cur.toNat = cfg.pktLen - 1 := by simpa [Channel.atLast] using hlast
  refine inv_of_ready rfl hen (Memory.wf_write _ hbuf (by omega)) ?_ ?_ ?_
  · exact (BitVec.toNat_ofNat ..).trans (Nat.mod_eq_of_lt (by omega))
  · exact (Memory.read_write_other _ _ (by omega)).trans hmarker
  · show crcOf cfg.crc ((ch.buf.write (cfg.pktLen - 1) ch.crc).first (cfg.pktLen - 1))
      = (ch.buf.write (cfg.pktLen - 1) ch.crc).read (cfg.pktLen - 1)
    rw [Memory.first_write _ _ le_rfl, Memory.read_write_same, hcrc, hcur]

/-- CH_CFG (R244) where CH_EN is not cleared: an enabled channel stays as it is, a disabled one was searching. -/
theorem Channel.inv_wrChCfg (h : ch.Inv cfg) {enable : Bool}
    (hkeep : (ch.chEn && !enable) = false) (dev : Byte) : Channel.Inv cfg { ch with devId := dev, chEn := enable } := by
  obtain ⟨hbuf, hst, hoff, hdecoder⟩ := h
  refine ⟨hbuf, hst, fun henable => hoff ?_, hdecoder⟩
  have henable : enable = false := henable
  simpa [henable] using hkeep

/-- The age counts only inside a packet, where the invariant does not bound it (R192, 10_state.md R23). -/
theorem Channel.inv_aged (h : ch.Inv cfg) (hst : ch.st = ACCUM) (a : Half) :
    Channel.Inv cfg { ch with age := a } := by
  obtain ⟨hbuf, hst3, hoff, -, hdecoder⟩ := h
  exact ⟨hbuf, hst3, hoff, fun hsearch => absurd (hst.symm.trans hsearch) (by decide), hdecoder⟩

end

section
variable {s : State} {i : Instr} {b : Block}

/-- Every row that changes a channel keeps its invariant. -/
theorem ChannelStep.inv {c : Chan} {ch : Channel} (h : ChannelStep s i c ch)
    (hlegal : s.cfg.Legal) (hinv : (s.chan c).Inv s.cfg) : ch.Inv s.cfg := by
  have hbuf : (s.chan c).buf.wf s.cfg.pktLen := hinv.1
  cases h with
  | wrChCfg _ _ _ hkeep => exact Channel.inv_wrChCfg hinv hkeep _
  | wrChCfgOff _ d =>
    exact Channel.inv_toSearch (ch := { s.chan c with devId := d.extractLsb' 0 8, chEn := d.getLsbD 8 }) hbuf
  | wrChAng | wrChPos | wrCntOk | wrCntCrc | wrCntTmo | wrCntRej | xfReject => exact hinv
  | rxMarker _ _ _ hforms =>
    obtain ⟨-, -, -, -, hen, -⟩ := (s.rxForms_iff ..).mp hforms
    exact Channel.inv_rxMarker hlegal hinv hen
  | rxData _ _ b hforms =>
    obtain ⟨-, -, -, -, hen, hst, hlast, -⟩ := (s.rxForms_iff ..).mp hforms
    exact Channel.inv_rxData hlegal hinv hen hst hlast b
  | rxCheckOk _ b hforms =>
    obtain ⟨-, -, -, -, hen, hst, hlast, hcrc⟩ := (s.rxForms_iff ..).mp hforms
    obtain rfl := of_decide_eq_true hcrc
    exact Channel.inv_rxCheckOk hlegal hinv hen hst hlast _
  | aged hforms =>
    obtain ⟨-, -, -, hst⟩ := (s.visitForms_iff ..).mp hforms
    exact Channel.inv_aged hinv hst _
  | rxCheckBad | timeout | dispatch => exact Channel.inv_toSearch hbuf

/-! ## The invariant of the block -/

/-- The transform unit's part of the block's invariant. -/
def Xform.Bounded (nch : Nat) (x : Xform) : Prop := (x.busy = true → x.ch.val < nch) ∧ (x.busy = false → x.k = 0)

/-- The sample advance (R202) keeps the latched channel, and ends a packet at sample 0. -/
theorem Xform.bounded_advance {nch : Nat} {x : Xform} (h : x.Bounded nch) (hbusy : x.busy = true) :
    x.advance.Bounded nch := by
  obtain ⟨hsame, hlast, hmore⟩ := x.advance_advanced
  have hch : x.advance.ch = x.ch := by rw [hsame]
  refine ⟨fun _ => hch ▸ h.1 hbusy, fun hidle => ?_⟩
  by_cases hk : x.k.val = 11
  · exact Fin.ext (hlast hk).2
  · rw [(hmore hk).1, hbusy] at hidle
    cases hidle

theorem BlockStep.xf_bounded (h : BlockStep s i b) (hsp : s.hw.sp.val < s.cfg.nch)
    (hxf : s.hw.xf.Bounded s.cfg.nch) : b.xf.Bounded s.cfg.nch := by
  obtain hsame | ⟨hbusy, hadvance⟩ | ⟨-, hlatch⟩ | ⟨-, hreset⟩ := h.xf_cases
  · rw [hsame]; exact hxf
  · rw [hadvance]; exact Xform.bounded_advance hxf hbusy
  · rw [hlatch]; exact ⟨fun _ => hsp, nofun⟩
  · rw [hreset]; exact ⟨nofun, fun _ => rfl⟩

theorem BlockStep.sp_lt (h : BlockStep s i b) (hnch : 1 ≤ s.cfg.nch ∧ s.cfg.nch ≤ MAX_NCH)
    (hsp : s.hw.sp.val < s.cfg.nch) : b.sp.val < s.cfg.nch := by
  obtain hsame | hnext | hzero := h.sp_cases
  · rw [hsame]; exact hsp
  · rw [hnext]; exact nextChan_lt _ hnch
  · rw [hzero]; exact hnch.1

/-- OUTQ stays within its depth (10_state.md R26): a record enters only where there is room. -/
theorem BlockStep.outq_length_le (h : BlockStep s i b)
    (hdepth : s.hw.outq.length ≤ s.cfg.outDepth) : b.outq.length ≤ s.cfg.outDepth := by
  obtain hsame | ⟨-, hforms, hpush⟩ | ⟨-, hpop⟩ | ⟨-, hreset⟩ := h.outq_cases
  · rw [hsame]; exact hdepth
  · obtain ⟨-, -, hroom⟩ := (s.xfForms_iff true).mp hforms
    rw [hpush, List.length_append]; exact hroom rfl
  · rw [hpop, List.length_tail]; omega
  · rw [hreset]; exact Nat.zero_le _

/-- The records of OUTQ keep the layout of 30_encoding.md R100: a point is made while a channel is latched. -/
theorem BlockStep.outq_wf (h : BlockStep s i b)
    (hxf : s.hw.xf.Bounded s.cfg.nch) (hwf : ∀ r ∈ s.hw.outq, r.Wf s.cfg.nch) : ∀ r ∈ b.outq, r.Wf s.cfg.nch := by
  obtain hsame | ⟨-, hforms, hpush⟩ | ⟨-, hpop⟩ | ⟨-, hreset⟩ := h.outq_cases
  · rw [hsame]; exact hwf
  · obtain ⟨hbusy, -, -⟩ := (s.xfForms_iff true).mp hforms
    intro r hr
    rw [hpush, List.mem_append, List.mem_singleton] at hr
    obtain hold | rfl := hr
    · exact hwf r hold
    · exact Xform.record_wf _ _ _ _ _ (hxf.1 hbusy)
  · rw [hpop]; exact fun r hr => hwf r (List.mem_of_mem_tail hr)
  · rw [hreset]; exact nofun

theorem BlockStep.chan_inv (h : BlockStep s i b) (hlegal : s.cfg.Legal)
    (hinv : ∀ c, (s.chan c).Inv s.cfg) (c : Chan) : (b.chan c).Inv s.cfg := by
  obtain hsame | hch | ⟨-, hreset⟩ := h.chan_cases c
  · rw [hsame]; exact hinv c
  · exact hch.inv hlegal (hinv c)
  · rw [hreset]; exact Channel.inv_reset _ c

/-- Every change of the block keeps its invariant, in a legal configuration. -/
theorem BlockStep.inv (h : BlockStep s i b) (hinv : s.Inv) : b.Inv s.cfg := by
  obtain ⟨hlegal, hchans, hsp, hch, hdepth, hwf, hk⟩ := hinv
  have hnch : 1 ≤ s.cfg.nch ∧ s.cfg.nch ≤ MAX_NCH := ⟨hlegal.1, hlegal.2.1⟩
  have hxf : s.hw.xf.Bounded s.cfg.nch := ⟨hch, hk⟩
  obtain ⟨hch', hk'⟩ := h.xf_bounded hsp hxf
  exact ⟨h.chan_inv hlegal hchans, h.sp_lt hnch hsp, hch', h.outq_length_le hdepth, h.outq_wf hxf hwf, hk'⟩

end

/-- Settles O49: the block changes as `BlockStep` says, or the turn passes and it stays. -/
theorem stepKeepsInvariant : Obligations.StepKeepsInvariant := by
  intro s t hinv hstep
  obtain ⟨i, -, hcfg, hb, -⟩ | ⟨hhw, hcfg⟩ := step_effect hstep
  · have hblock : t.hw.Inv s.cfg := hb.inv hinv
    exact ⟨by rw [State.Inv, hcfg]; exact ⟨hinv.1, hblock⟩, hcfg⟩
  · exact ⟨by rw [State.Inv, hcfg, hhw]; exact hinv, hcfg⟩

end Sys2Proof.Machine

/-!
PROOF. The output consumer's turns (44_scheduler.md R205): what one POP turn does to the machine, and a run of them.
-/

namespace Sys2Proof.Machine

/-- The machine that has delivered r and holds `records` in OUTQ; nothing else moves (R205). -/
def State.deliver (s : State) (r : Record) (records : List Record) : State :=
  { s with hw := { s.hw with outq := records }, env := { s.env with delivered := s.env.delivered ++ [r] } }

/-- The POP word selects OUT_POP in every configuration (30_encoding.md R106). -/
theorem decode_popWord (cfg : Config) : decode cfg { word := popWord, chan := 0, data := 0#32 } = .outPop := rfl

section
variable {s : State} {turns : List Stimulus} {r : Record} {records : List Record}

theorem State.nextInstr_pop (hturn : s.env.stim = .pop :: turns) (hq : s.hw.outq = r :: records) :
    s.nextInstr = some .outPop := by
  have hevent : s.nextEvent = some { word := popWord, chan := 0, data := 0#32 } := by
    simp [State.nextEvent, hturn, hq]
  rw [State.nextInstr_some hevent, decode_popWord]

/-- A POP turn with a record in OUTQ delivers the oldest one (R205). -/
theorem step_pop (hfault : s.modelFault = none) (hturn : s.env.stim = .pop :: turns)
    (hq : s.hw.outq = r :: records) : step s = .next (s.endTurn.deliver r records) := by
  rw [step_of_instr hfault (State.nextInstr_pop hturn hq), exec_outPop, State.endTurn_hw, hq]
  rfl

end

/-- Settles O43, by induction on the number of POP turns: the first delivers the head of OUTQ, and the run goes on from a
state whose OUTQ is the tail. -/
theorem popsDeliverInOrder : Obligations.PopsDeliverInOrder := by
  intro s n turns hfault hlen hturns
  induction n generalizing s with
  | zero => exact ⟨s, rfl, by simp, by simp⟩
  | succ n ih =>
    obtain ⟨r, records, hq⟩ := List.exists_cons_of_length_pos (Nat.zero_lt_of_lt hlen)
    rw [List.replicate_succ, List.cons_append] at hturns
    have hstep : step s = .next (s.endTurn.deliver r records) := step_pop hfault hturns hq
    have hrest : n ≤ records.length := by simpa [hq] using hlen
    have hturns' : (s.endTurn.deliver r records).env.stim = List.replicate n .pop ++ turns :=
      congrArg List.tail hturns
    obtain ⟨t, hrun, hdelivered, hhw⟩ := ih (s.endTurn.deliver r records) hfault hrest hturns'
    refine ⟨t, (run_succ_of_next n hstep).trans hrun, ?_, ?_⟩
    · calc t.env.delivered
        _ = (s.env.delivered ++ [r]) ++ records.take n := hdelivered
        _ = s.env.delivered ++ s.hw.outq.take (n + 1) := by simp [hq]
    · calc t.hw
        _ = { s.hw with outq := records.drop n } := hhw
        _ = { s.hw with outq := s.hw.outq.drop (n + 1) } := by rw [hq, List.drop_succ_cons]

end Sys2Proof.Machine

/-!
PROOF. The layout of the event word (30_encoding.md R99, R101 to R107): each word as a number, its fields read back, and
every 16-bit word as a word of one class. What the decoder makes of each class follows.
-/

namespace Sys2Proof

/-! ## Words and their fields as numbers -/

theorem toNat_append_eq_add {m n : Nat} (x : BitVec m) (y : BitVec n) :
    (x ++ y).toNat = x.toNat * 2 ^ n + y.toNat := by
  rw [BitVec.toNat_append, ← Nat.shiftLeft_add_eq_or_of_lt y.isLt, Nat.shiftLeft_eq]

theorem toNat_extractLsb' {n : Nat} (w : BitVec n) (start len : Nat) :
    (w.extractLsb' start len).toNat = w.toNat / 2 ^ start % 2 ^ len := by
  rw [BitVec.extractLsb'_toNat, Nat.shiftRight_eq_div_pow]

theorem toNat_getLsbD {n : Nat} (w : BitVec n) (i : Nat) : (w.getLsbD i).toNat = w.toNat / 2 ^ i % 2 := by
  rw [BitVec.getLsbD, Nat.testBit_eq_decide_div_mod_eq]
  obtain h | h := Nat.mod_two_eq_zero_or_one (w.toNat / 2 ^ i) <;> simp [h]

theorem extractLsb'_eq_of_toNat {n start len : Nat} {w : BitVec n} {x : BitVec len}
    (h : w.toNat / 2 ^ start % 2 ^ len = x.toNat) : w.extractLsb' start len = x :=
  BitVec.eq_of_toNat_eq ((toNat_extractLsb' w start len).trans h)

theorem getLsbD_eq_of_toNat {n i : Nat} {w : BitVec n} {x : Bool} (h : w.toNat / 2 ^ i % 2 = x.toNat) : w.getLsbD i = x := by
  rw [BitVec.getLsbD, Nat.testBit_eq_decide_div_mod_eq, h]
  cases x <;> rfl

theorem toNat_busWord (we : Bool) (a : Addr) : (busWord we a).toNat = 0x1000 * we.toNat + a.toNat := by
  simp only [busWord, toNat_append_eq_add, BitVec.toNat_ofBool, BitVec.toNat_ofNat]
  omega

theorem toNat_rxWord (chen : Bool) (st : BitVec 2) (last crcm : Bool) (b : Byte) :
    (rxWord chen st last crcm b).toNat
      = 0x2000 + 0x1000 * chen.toNat + 0x400 * st.toNat + 0x200 * last.toNat + 0x100 * crcm.toNat + b.toNat := by
  simp only [rxWord, toNat_append_eq_add, BitVec.toNat_ofBool, BitVec.toNat_ofNat]
  omega

theorem toNat_visitWord (chen : Bool) (st : BitVec 2) (low : BitVec 10) :
    (visitWord chen st low).toNat = 0x4000 + 0x1000 * chen.toNat + 0x400 * st.toNat + low.toNat := by
  simp only [visitWord, toNat_append_eq_add, BitVec.toNat_ofBool, BitVec.toNat_ofNat]
  omega

theorem toNat_xfWord (acc : Bool) : (xfWord acc).toNat = 0x6000 + 0x1000 * acc.toNat := by
  cases acc <;> rfl

theorem toNat_reservedWord (low : BitVec 14) : (reservedWord low).toNat = 0xC000 + low.toNat := by
  simp only [reservedWord, toNat_append_eq_add, BitVec.toNat_ofNat]
  omega

theorem busWord_fields (we : Bool) (a : Addr) :
    (busWord we a).getLsbD 12 = we ∧ (busWord we a).extractLsb' 0 12 = a := by
  have := we.toNat_lt
  refine ⟨getLsbD_eq_of_toNat ?_, extractLsb'_eq_of_toNat ?_⟩ <;> rw [toNat_busWord] <;> omega

theorem rxWord_fields (chen : Bool) (st : BitVec 2) (last crcm : Bool) (b : Byte) :
    let w := rxWord chen st last crcm b
    w.getLsbD 12 = chen ∧ w.extractLsb' 10 2 = st ∧ w.getLsbD 9 = last ∧ w.getLsbD 8 = crcm ∧ w.extractLsb' 0 8 = b := by
  have := chen.toNat_lt
  have := last.toNat_lt
  have := crcm.toNat_lt
  refine ⟨getLsbD_eq_of_toNat ?_, extractLsb'_eq_of_toNat ?_, getLsbD_eq_of_toNat ?_, getLsbD_eq_of_toNat ?_,
    extractLsb'_eq_of_toNat ?_⟩ <;> rw [toNat_rxWord] <;> omega

theorem visitWord_fields (chen : Bool) (st : BitVec 2) (low : BitVec 10) :
    let w := visitWord chen st low
    w.getLsbD 12 = chen ∧ w.extractLsb' 10 2 = st ∧ w.extractLsb' 0 10 = low := by
  have := chen.toNat_lt
  refine ⟨getLsbD_eq_of_toNat ?_, extractLsb'_eq_of_toNat ?_, extractLsb'_eq_of_toNat ?_⟩ <;>
    rw [toNat_visitWord] <;> omega

/-! ## The class of a word, E[15:13] -/

theorem toNat_classBits (w : EventWord) : (w.extractLsb' 13 3).toNat = w.toNat / 0x2000 := by
  rw [toNat_extractLsb']
  omega

theorem rxWord_toNat_class (chen : Bool) (st : BitVec 2) (last crcm : Bool) (b : Byte) :
    (rxWord chen st last crcm b).toNat / 0x2000 = 1 := by
  rw [← toNat_classBits, Laws.ClassBits.rx_class]
  rfl

theorem visitWord_toNat_class (chen : Bool) (st : BitVec 2) (low : BitVec 10) :
    (visitWord chen st low).toNat / 0x2000 = 2 := by
  rw [← toNat_classBits, Laws.ClassBits.visit_class]
  rfl

theorem reservedWord_toNat_class (low : BitVec 14) :
    (reservedWord low).toNat / 0x2000 = 6 ∨ (reservedWord low).toNat / 0x2000 = 7 := by
  rw [toNat_reservedWord]
  omega

/-! ## Every word is a word of one class -/

/-- The classes of R101. XF, POP and RESET words are known by their class alone, since the bits those classes leave
undefined may hold anything in a presented word. -/
inductive WordForm : EventWord → Prop
  | bus (we : Bool) (a : Addr) : WordForm (busWord we a)
  | rx (chen : Bool) (st : BitVec 2) (last crcm : Bool) (b : Byte) : WordForm (rxWord chen st last crcm b)
  | visit (chen : Bool) (st : BitVec 2) (low : BitVec 10) : WordForm (visitWord chen st low)
  | xf {w : EventWord} (hclass : w.toNat / 0x2000 = 3) : WordForm w
  | pop {w : EventWord} (hclass : w.toNat / 0x2000 = 4) : WordForm w
  | reset {w : EventWord} (hclass : w.toNat / 0x2000 = 5) : WordForm w
  | reserved (low : BitVec 14) : WordForm (reservedWord low)

theorem eq_busWord {w : EventWord} (hclass : w.toNat / 0x2000 = 0) : w = busWord (w.getLsbD 12) (w.extractLsb' 0 12) := by
  apply BitVec.eq_of_toNat_eq
  rw [toNat_busWord, toNat_getLsbD, toNat_extractLsb']
  omega

theorem eq_rxWord {w : EventWord} (hclass : w.toNat / 0x2000 = 1) :
    w = rxWord (w.getLsbD 12) (w.extractLsb' 10 2) (w.getLsbD 9) (w.getLsbD 8) (w.extractLsb' 0 8) := by
  apply BitVec.eq_of_toNat_eq
  simp only [toNat_rxWord, toNat_getLsbD, toNat_extractLsb']
  omega

theorem eq_visitWord {w : EventWord} (hclass : w.toNat / 0x2000 = 2) :
    w = visitWord (w.getLsbD 12) (w.extractLsb' 10 2) (w.extractLsb' 0 10) := by
  apply BitVec.eq_of_toNat_eq
  simp only [toNat_visitWord, toNat_getLsbD, toNat_extractLsb']
  omega

theorem eq_reservedWord {w : EventWord} (hclass : 6 ≤ w.toNat / 0x2000) : w = reservedWord (w.extractLsb' 0 14) := by
  apply BitVec.eq_of_toNat_eq
  rw [toNat_reservedWord, toNat_extractLsb']
  omega

theorem wordForm (w : EventWord) : WordForm w := by
  obtain h | h | h | h | h | h | h : w.toNat / 0x2000 = 0 ∨ w.toNat / 0x2000 = 1 ∨ w.toNat / 0x2000 = 2
      ∨ w.toNat / 0x2000 = 3 ∨ w.toNat / 0x2000 = 4 ∨ w.toNat / 0x2000 = 5 ∨ 6 ≤ w.toNat / 0x2000 := by omega
  · exact eq_busWord h ▸ .bus _ _
  · exact eq_rxWord h ▸ .rx _ _ _ _ _
  · exact eq_visitWord h ▸ .visit _ _ _
  · exact .xf h
  · exact .pop h
  · exact .reset h
  · exact eq_reservedWord h ▸ .reserved _

/-! ## What the decoder makes of a word of each class (R108) -/

section
variable (cfg : Config) (c : Chan) (d : Word)

theorem decode_busWord (we : Bool) (a : Addr) :
    decode cfg { word := busWord we a, chan := c, data := d } = if we then decodeWrite cfg a d else decodeRead cfg a := by
  obtain ⟨hwe, ha⟩ := busWord_fields we a
  simp only [decode, Laws.ClassBits.bus_class, hwe, ha]
  rfl

theorem decode_rxWord (chen : Bool) (st : BitVec 2) (last crcm : Bool) (b : Byte) :
    decode cfg { word := rxWord chen st last crcm b, chan := c, data := d } = decodeRx cfg c chen st last crcm b := by
  obtain ⟨hchen, hst, hlast, hcrcm, hb⟩ := rxWord_fields chen st last crcm b
  simp only [decode, Laws.ClassBits.rx_class, hchen, hst, hlast, hcrcm, hb]
  rfl

theorem decode_visitWord (chen : Bool) (st : BitVec 2) (low : BitVec 10) :
    decode cfg { word := visitWord chen st low, chan := c, data := d } = decodeVisit chen st low := by
  obtain ⟨hchen, hst, hlow⟩ := visitWord_fields chen st low
  simp only [decode, Laws.ClassBits.visit_class, hchen, hst, hlow]
  rfl

theorem decode_xf {w : EventWord} (hclass : w.toNat / 0x2000 = 3) :
    decode cfg { word := w, chan := c, data := d } = if w.getLsbD 12 then .xfAccept else .xfReject := by
  simp only [decode, toNat_classBits, hclass]

theorem decode_pop {w : EventWord} (hclass : w.toNat / 0x2000 = 4) :
    decode cfg { word := w, chan := c, data := d } = .outPop := by
  simp only [decode, toNat_classBits, hclass]

theorem decode_reset {w : EventWord} (hclass : w.toNat / 0x2000 = 5) :
    decode cfg { word := w, chan := c, data := d } = .reset := by
  simp only [decode, toNat_classBits, hclass]

theorem decode_reservedWord (low : BitVec 14) :
    decode cfg { word := reservedWord low, chan := c, data := d } = .evReserved low := by
  have hlow : (reservedWord low).extractLsb' 0 14 = low := by
    apply extractLsb'_eq_of_toNat
    rw [toNat_reservedWord]
    omega
  obtain h | h := reservedWord_toNat_class low
  · simp only [decode, toNat_classBits, h, hlow]
  · simp only [decode, toNat_classBits, h, hlow]

end

end Sys2Proof

/-!
PROOF. The register map (10_state.md R28, 30_encoding.md R99): a bus address names a register exactly where that register
exists and has that address.
-/

namespace Sys2Proof

/-- The instruction that reads a register (R222 to R236). -/
def BusReg.read : BusReg → Instr
  | .id => .rdId
  | .ctrl => .rdCtrl
  | .status => .rdStatus
  | .round => .rdRound
  | .filtDist => .rdFiltDist
  | .filtInt => .rdFiltInt
  | .timeout => .rdTimeout
  | .chCfg c => .rdChCfg c
  | .chAng c => .rdChAng c
  | .chPos c => .rdChPos c
  | .chStat c => .rdChStat c
  | .cntOk c => .rdCntOk c
  | .cntCrc c => .rdCntCrc c
  | .cntTmo c => .rdCntTmo c
  | .cntRej c => .rdCntRej c

/-- The instruction that writes d to a register (R237 to R251). -/
def BusReg.write (d : Word) : BusReg → Instr
  | .id => .wrId d
  | .ctrl => .wrCtrl d
  | .status => .wrStatus d
  | .round => .wrRound d
  | .filtDist => .wrFiltDist d
  | .filtInt => .wrFiltInt d
  | .timeout => .wrTimeout d
  | .chCfg c => .wrChCfg c d
  | .chAng c => .wrChAng c d
  | .chPos c => .wrChPos c d
  | .chStat c => .wrChStat c d
  | .cntOk c => .wrCntOk c d
  | .cntCrc c => .wrCntCrc c d
  | .cntTmo c => .wrCntTmo c d
  | .cntRej c => .wrCntRej c d

/-- The global register at word i of the register space; word 7 has none. -/
def globalReg : Nat → Option BusReg
  | 0 => some .id
  | 1 => some .ctrl
  | 2 => some .status
  | 3 => some .round
  | 4 => some .filtDist
  | 5 => some .filtInt
  | 6 => some .timeout
  | _ => none

/-- The register at word i of the eight words of channel c. -/
def chanReg (c : Chan) : Nat → BusReg
  | 0 => .chCfg c
  | 1 => .chAng c
  | 2 => .chPos c
  | 3 => .chStat c
  | 4 => .cntOk c
  | 5 => .cntCrc c
  | 6 => .cntTmo c
  | _ => .cntRej c

/-- A register of a channel exists where the channel does. -/
def BusReg.Present (cfg : Config) : BusReg → Prop
  | .id | .ctrl | .status | .round | .filtDist | .filtInt | .timeout => True
  | .chCfg c | .chAng c | .chPos c | .chStat c | .cntOk c | .cntCrc c | .cntTmo c | .cntRej c => c.val < cfg.nch

/-! ## The registers in the order of their addresses -/

/-- The register space holds the global registers and eight words for each channel. -/
theorem BusReg.global_or_chan (r : BusReg) :
    (∃ i, globalReg i = some r) ∨ ∃ c i, i < 8 ∧ r = chanReg c i := by
  cases r with
  | id => exact .inl ⟨0, rfl⟩
  | ctrl => exact .inl ⟨1, rfl⟩
  | status => exact .inl ⟨2, rfl⟩
  | round => exact .inl ⟨3, rfl⟩
  | filtDist => exact .inl ⟨4, rfl⟩
  | filtInt => exact .inl ⟨5, rfl⟩
  | timeout => exact .inl ⟨6, rfl⟩
  | chCfg c => exact .inr ⟨c, 0, by decide, rfl⟩
  | chAng c => exact .inr ⟨c, 1, by decide, rfl⟩
  | chPos c => exact .inr ⟨c, 2, by decide, rfl⟩
  | chStat c => exact .inr ⟨c, 3, by decide, rfl⟩
  | cntOk c => exact .inr ⟨c, 4, by decide, rfl⟩
  | cntCrc c => exact .inr ⟨c, 5, by decide, rfl⟩
  | cntTmo c => exact .inr ⟨c, 6, by decide, rfl⟩
  | cntRej c => exact .inr ⟨c, 7, by decide, rfl⟩

theorem globalReg_lt {i : Nat} {r : BusReg} (h : globalReg i = some r) : i < 7 := by
  by_contra hi
  obtain ⟨j, rfl⟩ := Nat.exists_eq_add_of_le' (not_lt.1 hi)
  cases h

theorem toNat_regAddr_global {i : Nat} {r : BusReg} (h : globalReg i = some r) : (regAddr r).toNat = 4 * i := by
  have hi := globalReg_lt h
  interval_cases i <;> cases h <;> rfl

theorem toNat_regAddr_chan (c : Chan) {i : Nat} (hi : i < 8) :
    (regAddr (chanReg c i)).toNat = 0x100 + 0x20 * c.val + 4 * i := by
  have hc : c.val < 8 := c.isLt
  interval_cases i <;> simp only [chanReg, regAddr, BitVec.toNat_ofNat] <;> omega

theorem present_global (cfg : Config) {i : Nat} {r : BusReg} (h : globalReg i = some r) : r.Present cfg := by
  have hi := globalReg_lt h
  interval_cases i <;> cases h <;> trivial

theorem present_chan (cfg : Config) (c : Chan) {i : Nat} (hi : i < 8) : (chanReg c i).Present cfg ↔ c.val < cfg.nch := by
  interval_cases i <;> rfl

/-! ## Address decode -/

theorem addrChan_eq_some_iff (cfg : Config) (a : Addr) (c : Chan) :
    addrChan cfg a = some c ↔ c.val < cfg.nch ∧ a.toNat / 0x20 % 8 = c.val := by
  have hval : ((a.extractLsb' 5 3).toFin : Chan).val = a.toNat / 0x20 % 8 := toNat_extractLsb' a 5 3
  simp only [addrChan, hval, Option.ite_none_right_eq_some, Option.some.injEq, Fin.ext_iff]
  constructor
  · rintro ⟨hlt, hc⟩; exact ⟨hc ▸ hlt, hc⟩
  · rintro ⟨hlt, hc⟩; exact ⟨hc ▸ hlt, hc⟩

/-- R99 on the address as a number: alignment, the global words below 0x020, the words of the channels from 0x100 to
0x1FF. -/
theorem busTarget_eq (cfg : Config) (a : Addr) :
    busTarget cfg a =
      if a.toNat % 4 ≠ 0 then none
      else if a.toNat / 0x20 = 0 then globalReg (a.toNat / 4 % 8)
      else if a.toNat / 0x100 = 1 then (addrChan cfg a).map fun c => chanReg c (a.toNat / 4 % 8)
      else none := by
  have ha := a.isLt
  have halign : (a.extractLsb' 0 2 = 0#2) = (a.toNat % 4 = 0) := by
    rw [← BitVec.toNat_inj, toNat_extractLsb']; simp
  have hglobal : (a.extractLsb' 5 7 = 0#7) = (a.toNat / 0x20 = 0) := by
    rw [← BitVec.toNat_inj, toNat_extractLsb', BitVec.toNat_ofNat]; congr 1; omega
  have hchan : (a.extractLsb' 8 4 = 1#4) = (a.toNat / 0x100 = 1) := by
    rw [← BitVec.toNat_inj, toNat_extractLsb', BitVec.toNat_ofNat]; congr 1; omega
  have hword : (a.extractLsb' 2 3).toNat = a.toNat / 4 % 8 := toNat_extractLsb' a 2 3
  simp only [busTarget, bne_iff_ne, beq_iff_eq, ne_eq, halign, hglobal, hchan, hword]
  rfl

/-- An address names exactly the register that exists and has that address. -/
theorem busTarget_eq_some_iff (cfg : Config) (a : Addr) (r : BusReg) :
    busTarget cfg a = some r ↔ r.Present cfg ∧ a = regAddr r := by
  have ha := a.isLt
  rw [busTarget_eq]
  constructor
  · intro h
    split_ifs at h with hlow hglobal hchan
    · rw [← BitVec.toNat_inj, toNat_regAddr_global h]
      exact ⟨present_global cfg h, by omega⟩
    · obtain ⟨c, hc, rfl⟩ := Option.map_eq_some_iff.1 h
      obtain ⟨hlt, hval⟩ := (addrChan_eq_some_iff cfg a c).1 hc
      have hi : a.toNat / 4 % 8 < 8 := Nat.mod_lt _ (by decide)
      rw [← BitVec.toNat_inj, toNat_regAddr_chan c hi, present_chan cfg c hi]
      exact ⟨hlt, by omega⟩
  · rintro ⟨hpresent, rfl⟩
    obtain ⟨i, hi⟩ | ⟨c, i, hi, rfl⟩ := r.global_or_chan
    · have := globalReg_lt hi
      have haddr := toNat_regAddr_global hi
      rw [if_neg (by omega), if_pos (by omega), ← hi]
      congr 1
      omega
    · have hc8 : c.val < 8 := c.isLt
      have haddr := toNat_regAddr_chan c hi
      have hc : addrChan cfg (regAddr (chanReg c i)) = some c := by
        rw [addrChan_eq_some_iff]
        exact ⟨(present_chan cfg c hi).1 hpresent, by omega⟩
      rw [if_neg (by omega), if_neg (by omega), if_pos (by omega), hc, Option.map_some]
      congr 2
      omega

/-! ## Mapped addresses -/

theorem mapped_iff_toNat (cfg : Config) (a : Addr) :
    Mapped cfg a = true ↔
      (∃ i, i < 7 ∧ 4 * i = a.toNat) ∨ ∃ c, c < cfg.nch ∧ ∃ i, i < 8 ∧ 0x100 + 0x20 * c + 4 * i = a.toNat := by
  have hglobal : [0x000, 0x004, 0x008, 0x00C, 0x010, 0x014, 0x018] = (List.range 7).map (4 * ·) := rfl
  simp only [Mapped, mappedAddrs, hglobal, List.contains_iff_mem, List.mem_append, List.mem_flatMap, List.mem_map,
    List.mem_range]

/-- The addresses of 10_state.md R28 are those of the registers that exist. -/
theorem mapped_iff {cfg : Config} (hlegal : cfg.Legal) (a : Addr) :
    Mapped cfg a = true ↔ ∃ r, r.Present cfg ∧ a = regAddr r := by
  rw [mapped_iff_toNat]
  constructor
  · rintro (⟨i, hi, haddr⟩ | ⟨c, hc, i, hi, haddr⟩)
    · obtain ⟨r, hr⟩ : ∃ r, globalReg i = some r := by interval_cases i <;> exact ⟨_, rfl⟩
      exact ⟨r, present_global cfg hr, BitVec.eq_of_toNat_eq (haddr.symm.trans (toNat_regAddr_global hr).symm)⟩
    · obtain ⟨-, hmax, -⟩ := hlegal
      refine ⟨chanReg ⟨c, hc.trans_le hmax⟩ i, (present_chan cfg _ hi).2 hc, BitVec.eq_of_toNat_eq ?_⟩
      rw [toNat_regAddr_chan _ hi, haddr]
  · rintro ⟨r, hpresent, rfl⟩
    obtain ⟨i, hi⟩ | ⟨c, i, hi, rfl⟩ := r.global_or_chan
    · exact .inl ⟨i, globalReg_lt hi, (toNat_regAddr_global hi).symm⟩
    · exact .inr ⟨c, (present_chan cfg c hi).1 hpresent, i, hi, (toNat_regAddr_chan c hi).symm⟩

/-- The address decoder and the map agree on which addresses name no register. -/
theorem busTarget_eq_none_iff {cfg : Config} (hlegal : cfg.Legal) (a : Addr) :
    busTarget cfg a = none ↔ Mapped cfg a = false := by
  rw [← Bool.not_eq_true, mapped_iff hlegal, Option.eq_none_iff_forall_ne_some]
  simp only [ne_eq, busTarget_eq_some_iff, not_exists]

/-! ## Reads and writes -/

section
variable {cfg : Config} {a : Addr} {r : BusReg}

theorem decodeRead_of_some (h : busTarget cfg a = some r) : decodeRead cfg a = r.read := by
  rw [decodeRead, h]
  cases r <;> rfl

theorem decodeRead_of_none (h : busTarget cfg a = none) : decodeRead cfg a = .rdUnmapped a := by
  rw [decodeRead, h]

theorem decodeWrite_of_some (d : Word) (h : busTarget cfg a = some r) : decodeWrite cfg a d = r.write d := by
  rw [decodeWrite, h]
  cases r <;> rfl

theorem decodeWrite_of_none (d : Word) (h : busTarget cfg a = none) : decodeWrite cfg a d = .wrUnmapped a d := by
  rw [decodeWrite, h]

end

section
variable (cfg : Config) (r : BusReg) (d : Word)

theorem event_read : r.read.event cfg = { word := busWord false (regAddr r), chan := 0, data := 0#32 } := by
  cases r <;> rfl

theorem event_write : (r.write d).event cfg = { word := busWord true (regAddr r), chan := 0, data := d } := by
  cases r <;> rfl

theorem wellFormed_read : r.read.WellFormed cfg = true ↔ r.Present cfg := by
  cases r <;> simp [BusReg.read, Instr.WellFormed, BusReg.Present]

theorem wellFormed_write : (r.write d).WellFormed cfg = true ↔ r.Present cfg := by
  cases r <;> simp [BusReg.write, Instr.WellFormed, BusReg.Present]

end

end Sys2Proof

/-!
PROOF. The obligations on decode and encode (30_encoding.md R101 to R109): the round trip from an instruction, and words written out.
-/

namespace Sys2Proof

/-! ## What the decoder reads from a bus word -/

section
variable (cfg : Config)

theorem event_decodeRead (a : Addr) :
    (decodeRead cfg a).event cfg = { word := busWord false a, chan := 0, data := 0#32 } := by
  cases h : busTarget cfg a with
  | none => rw [decodeRead_of_none h]; rfl
  | some r =>
    obtain ⟨-, rfl⟩ := (busTarget_eq_some_iff cfg a r).1 h
    rw [decodeRead_of_some h, event_read]

theorem event_decodeWrite (a : Addr) (d : Word) :
    (decodeWrite cfg a d).event cfg = { word := busWord true a, chan := 0, data := d } := by
  cases h : busTarget cfg a with
  | none => rw [decodeWrite_of_none d h]; rfl
  | some r =>
    obtain ⟨-, rfl⟩ := (busTarget_eq_some_iff cfg a r).1 h
    rw [decodeWrite_of_some d h, event_write]

end

/-! ## What the decoder reads from an RX word -/

/-- The decoder states of R22, with 3, which is reserved (R47). -/
theorem st_cases (st : BitVec 2) : st = 0#2 ∨ st = 1#2 ∨ st = 2#2 ∨ st = 3#2 := by
  revert st; decide

theorem decodeRx_marker (cfg : Config) (c : Chan) (last crcm : Bool) :
    decodeRx cfg c true 0#2 last crcm cfg.marker = .rxMarker c last crcm := by
  simp [decodeRx]

theorem decodeRx_skip {cfg : Config} {b : Byte} (c : Chan) (last crcm : Bool) (hb : b ≠ cfg.marker) :
    decodeRx cfg c true 0#2 last crcm b = .rxSkip c last crcm b := by
  simp [decodeRx, hb]

/-- Every bit of an RX word is a field of its instruction (R103). -/
theorem event_decodeRx (cfg : Config) (c : Chan) (chen : Bool) (st : BitVec 2) (last crcm : Bool) (b : Byte) :
    (decodeRx cfg c chen st last crcm b).event cfg = { word := rxWord chen st last crcm b, chan := c, data := 0#32 } := by
  cases chen with
  | false => rfl
  | true =>
    obtain rfl | rfl | rfl | rfl := st_cases st
    · by_cases hb : b = cfg.marker
      · rw [hb, decodeRx_marker]; rfl
      · rw [decodeRx_skip c last crcm hb]; rfl
    · cases last
      · rfl
      · cases crcm <;> rfl
    · rfl
    · rfl

/-! ## Decoding the event of an instruction -/

section
variable {cfg : Config}

theorem decode_event_read (r : BusReg) (hwf : r.read.WellFormed cfg = true) : decode cfg (r.read.event cfg) = r.read := by
  rw [event_read, decode_busWord]
  exact decodeRead_of_some ((busTarget_eq_some_iff cfg _ r).2 ⟨(wellFormed_read cfg r).1 hwf, rfl⟩)

theorem decode_event_write (r : BusReg) (d : Word) (hwf : (r.write d).WellFormed cfg = true) :
    decode cfg ((r.write d).event cfg) = r.write d := by
  rw [event_write, decode_busWord]
  exact decodeWrite_of_some d ((busTarget_eq_some_iff cfg _ r).2 ⟨(wellFormed_write cfg r d).1 hwf, rfl⟩)

theorem decode_event_rdUnmapped {a : Addr} (hlegal : cfg.Legal) (h : Mapped cfg a = false) :
    decode cfg (Instr.event cfg (.rdUnmapped a)) = .rdUnmapped a :=
  (decode_busWord cfg 0 0#32 false a).trans (decodeRead_of_none ((busTarget_eq_none_iff hlegal a).2 h))

theorem decode_event_wrUnmapped {a : Addr} (d : Word) (hlegal : cfg.Legal) (h : Mapped cfg a = false) :
    decode cfg (Instr.event cfg (.wrUnmapped a d)) = .wrUnmapped a d :=
  (decode_busWord cfg 0 d true a).trans (decodeWrite_of_none d ((busTarget_eq_none_iff hlegal a).2 h))

theorem decode_event_decodeRx (c : Chan) (chen : Bool) (st : BitVec 2) (last crcm : Bool) (b : Byte) :
    decode cfg ((decodeRx cfg c chen st last crcm b).event cfg) = decodeRx cfg c chen st last crcm b := by
  rw [event_decodeRx, decode_rxWord]

end

/-- Settles O1, row by row: the registers through the address map, the RX rows through the fields of their word. -/
theorem decodeEncodeRoundTrip : Obligations.DecodeEncodeRoundTrip := by
  intro cfg i hlegal hwf
  cases i with
  | rdId => exact decode_event_read .id hwf
  | rdCtrl => exact decode_event_read .ctrl hwf
  | rdStatus => exact decode_event_read .status hwf
  | rdRound => exact decode_event_read .round hwf
  | rdFiltDist => exact decode_event_read .filtDist hwf
  | rdFiltInt => exact decode_event_read .filtInt hwf
  | rdTimeout => exact decode_event_read .timeout hwf
  | rdChCfg c => exact decode_event_read (.chCfg c) hwf
  | rdChAng c => exact decode_event_read (.chAng c) hwf
  | rdChPos c => exact decode_event_read (.chPos c) hwf
  | rdChStat c => exact decode_event_read (.chStat c) hwf
  | rdCntOk c => exact decode_event_read (.cntOk c) hwf
  | rdCntCrc c => exact decode_event_read (.cntCrc c) hwf
  | rdCntTmo c => exact decode_event_read (.cntTmo c) hwf
  | rdCntRej c => exact decode_event_read (.cntRej c) hwf
  | rdUnmapped a => exact decode_event_rdUnmapped hlegal (by simpa [Instr.WellFormed] using hwf)
  | wrId d => exact decode_event_write .id d hwf
  | wrCtrl d => exact decode_event_write .ctrl d hwf
  | wrStatus d => exact decode_event_write .status d hwf
  | wrRound d => exact decode_event_write .round d hwf
  | wrFiltDist d => exact decode_event_write .filtDist d hwf
  | wrFiltInt d => exact decode_event_write .filtInt d hwf
  | wrTimeout d => exact decode_event_write .timeout d hwf
  | wrChCfg c d => exact decode_event_write (.chCfg c) d hwf
  | wrChAng c d => exact decode_event_write (.chAng c) d hwf
  | wrChPos c d => exact decode_event_write (.chPos c) d hwf
  | wrChStat c d => exact decode_event_write (.chStat c) d hwf
  | wrCntOk c d => exact decode_event_write (.cntOk c) d hwf
  | wrCntCrc c d => exact decode_event_write (.cntCrc c) d hwf
  | wrCntTmo c d => exact decode_event_write (.cntTmo c) d hwf
  | wrCntRej c d => exact decode_event_write (.cntRej c) d hwf
  | wrUnmapped a d => exact decode_event_wrUnmapped d hlegal (by simpa [Instr.WellFormed] using hwf)
  | rxDrain c st last crcm b => exact decode_event_decodeRx c false st last crcm b
  | rxMarker c last crcm =>
    exact decodeRx_marker cfg c last crcm ▸ decode_event_decodeRx c true 0#2 last crcm cfg.marker
  | rxSkip c last crcm b =>
    have hb : b ≠ cfg.marker := by simpa [Instr.WellFormed] using hwf
    exact decodeRx_skip c last crcm hb ▸ decode_event_decodeRx c true 0#2 last crcm b
  | rxData c crcm b => exact decode_event_decodeRx c true 1#2 false crcm b
  | rxCheckOk c b => exact decode_event_decodeRx c true 1#2 true true b
  | rxCheckBad c b => exact decode_event_decodeRx c true 1#2 true false b
  | rxReserved c st last crcm b =>
    obtain rfl | rfl : st = 2#2 ∨ st = 3#2 := by simpa [Instr.WellFormed] using hwf
    · exact decode_event_decodeRx c true 2#2 last crcm b
    · exact decode_event_decodeRx c true 3#2 last crcm b
  | visitOff st => exact decode_visitWord cfg 0 0#32 false st 0#10
  | visitIdle => exact decode_visitWord cfg 0 0#32 true 0#2 0#10
  | visitAge => exact decode_visitWord cfg 0 0#32 true 1#2 0#10
  | visitDispatch => exact decode_visitWord cfg 0 0#32 true 2#2 0#10
  | visitReserved low => exact decode_visitWord cfg 0 0#32 true 3#2 low
  | xfReject => exact decode_xf (w := xfWord false) cfg 0 0#32 rfl
  | xfAccept => exact decode_xf (w := xfWord true) cfg 0 0#32 rfl
  | outPop => exact Machine.decode_popWord cfg
  | reset => exact decode_reset (w := resetWord) cfg 0 0#32 rfl
  | evReserved low => exact decode_reservedWord cfg 0 0#32 low

/-- Settles O4: the ten words are evaluated. -/
theorem sampleWordsDecode : Obligations.SampleWordsDecode := by
  unfold Obligations.SampleWordsDecode
  decide

end Sys2Proof

/-!
PROOF. The opcode table (30_encoding.md R108, R113): its rows class by class, and the first row that fits each word.
-/

namespace Sys2Proof

/-- A row of the opcode table: mnemonic, match, mask, and whether it needs A[7:5] < NCH. -/
abbrev TableRow := String × Nat × Nat × Bool

/-! ## When a row fits -/

theorem and_div_of_ones {n : Nat} {w mask : BitVec n} {k : Nat} (h : mask.toNat / 2 ^ k = 2 ^ (n - k) - 1) :
    (w &&& mask).toNat / 2 ^ k = w.toNat / 2 ^ k := by
  have hlt : w.toNat / 2 ^ k < 2 ^ (n - k) := by
    rw [Nat.div_lt_iff_lt_mul (Nat.two_pow_pos k), ← Nat.pow_add]
    exact w.isLt.trans_le (Nat.pow_le_pow_right (by decide) (by omega))
  rw [BitVec.toNat_and, Nat.and_div_two_pow, h, Nat.and_two_pow_sub_one_eq_mod, Nat.mod_eq_of_lt hlt]

/-- A mask that is 0 below bit k does not see what stands there. -/
theorem and_congr_of_div {n : Nat} {w v mask : BitVec n} {k : Nat} (hmask : mask.toNat % 2 ^ k = 0)
    (h : w.toNat / 2 ^ k = v.toNat / 2 ^ k) : w &&& mask = v &&& mask := by
  apply BitVec.eq_of_toNat_eq
  rw [BitVec.toNat_and, BitVec.toNat_and, ← Nat.div_add_mod (w.toNat &&& mask.toNat) (2 ^ k),
    ← Nat.div_add_mod (v.toNat &&& mask.toNat) (2 ^ k)]
  simp only [Nat.and_div_two_pow, Nat.and_mod_two_pow, h, hmask, Nat.and_zero]

/-- A mask with a hole at the bits from k up to m. -/
theorem toNat_and_of_hole {n : Nat} {w mask : BitVec n} {k m : Nat} (hkm : k ≤ m)
    (hhigh : mask.toNat / 2 ^ m = 2 ^ (n - m) - 1) (hlow : mask.toNat % 2 ^ m = 2 ^ k - 1) :
    (w &&& mask).toNat = 2 ^ m * (w.toNat / 2 ^ m) + w.toNat % 2 ^ k := by
  have hmod : (w &&& mask).toNat % 2 ^ m = w.toNat % 2 ^ k := by
    rw [BitVec.toNat_and, Nat.and_mod_two_pow, hlow, Nat.and_two_pow_sub_one_eq_mod,
      Nat.mod_mod_of_dvd _ (pow_dvd_pow 2 hkm)]
  rw [← Nat.div_add_mod (w &&& mask).toNat (2 ^ m), and_div_of_ones hhigh, hmod]

/-- The mnemonic of the first of some rows that fits a word. -/
def firstFit (cfg : Config) (rows : List TableRow) (w : EventWord) : Option String :=
  (rows.find? fun row => rowFits cfg row w).map fun row => row.1

section
variable {cfg : Config} {w v : EventWord} {k : Nat} {rows : List TableRow}

theorem firstFit_append (rows' : List TableRow) :
    firstFit cfg (rows ++ rows') w = (firstFit cfg rows w).or (firstFit cfg rows' w) := by
  rw [firstFit, List.find?_append, Option.map_or]
  rfl

theorem firstFit_cons (row : TableRow) :
    firstFit cfg (row :: rows) w = if rowFits cfg row w then some row.1 else firstFit cfg rows w := by
  cases h : rowFits cfg row w <;> simp [firstFit, h]

theorem rowFits_iff (row : TableRow) :
    rowFits cfg row w = true ↔
      w &&& BitVec.ofNat 16 row.2.2.1 = BitVec.ofNat 16 row.2.1
      ∧ (row.2.2.2 = true → w.toNat / 0x20 % 8 < cfg.nch) := by
  have hchan : (w.extractLsb' 5 3).toNat = w.toNat / 0x20 % 8 := toNat_extractLsb' w 5 3
  cases h : row.2.2.2 <;> simp only [rowFits, h, hchan] <;> simp

/-- The row asks that the bits of the word from k up be the number n. -/
def AsksHigh (k n : Nat) (row : TableRow) : Prop :=
  (BitVec.ofNat 16 row.2.2.1).toNat / 2 ^ k = 2 ^ (16 - k) - 1 ∧ (BitVec.ofNat 16 row.2.1).toNat / 2 ^ k = n

theorem firstFit_none_of_high {n : Nat} (hrows : ∀ row ∈ rows, AsksHigh k n row) (hw : w.toNat / 2 ^ k ≠ n) :
    firstFit cfg rows w = none := by
  refine Option.map_eq_none_iff.2 (List.find?_eq_none.2 fun row hrow hfits => hw ?_)
  obtain ⟨hmask, hmatch⟩ := hrows row hrow
  obtain ⟨hfit, -⟩ := (rowFits_iff row).1 hfits
  rw [← and_div_of_ones hmask, hfit, hmatch]

/-- The row asks for nothing below bit k of the word. -/
def IgnoresLow (k : Nat) (row : TableRow) : Prop :=
  (BitVec.ofNat 16 row.2.2.1).toNat % 2 ^ k = 0 ∧ row.2.2.2 = false

theorem rowFits_congr_of_high {row : TableRow} (hrow : IgnoresLow k row) (h : w.toNat / 2 ^ k = v.toNat / 2 ^ k) :
    rowFits cfg row w = rowFits cfg row v := by
  obtain ⟨hmask, hflag⟩ := hrow
  rw [Bool.eq_iff_iff, rowFits_iff, rowFits_iff, and_congr_of_div hmask h, hflag]
  simp

theorem firstFit_congr_of_high (hrows : ∀ row ∈ rows, IgnoresLow k row) (h : w.toNat / 2 ^ k = v.toNat / 2 ^ k) :
    firstFit cfg rows w = firstFit cfg rows v :=
  congrArg (Option.map Prod.fst) (List.find?_congr fun row hrow => rowFits_congr_of_high (hrows row hrow) h)

end

/-! ## The rows, class by class -/

/-- The register that stands for a register in the table, whose rows leave the channel open. -/
def BusReg.row : BusReg → BusReg
  | .chCfg _ => .chCfg 0
  | .chAng _ => .chAng 0
  | .chPos _ => .chPos 0
  | .chStat _ => .chStat 0
  | .cntOk _ => .cntOk 0
  | .cntCrc _ => .cntCrc 0
  | .cntTmo _ => .cntTmo 0
  | .cntRej _ => .cntRej 0
  | r => r

/-- The mnemonic of an access to a register. -/
def busName (we : Bool) (r : BusReg) : String := if we then (r.write 0#32).mnemonic else r.read.mnemonic

/-- A row of a global register: the whole word is given. -/
def globalRow (we : Bool) (r : BusReg) : TableRow :=
  (busName we r, 0x1000 * we.toNat + (regAddr r).toNat, 0xFFFF, false)

/-- A row of a register of a channel: A[7:5] is left open. -/
def chanRow (we : Bool) (r : BusReg) : TableRow :=
  (busName we r, 0x1000 * we.toNat + (regAddr r).toNat, 0xFF1F, true)

/-- The row of every other address. -/
def unmappedRow (we : Bool) : TableRow := (if we then "WR_UNMAPPED" else "RD_UNMAPPED", 0x1000 * we.toNat, 0xF000, false)

def globalRegs : List BusReg := (List.range 7).filterMap globalReg

def chanRegs : List BusReg := (List.range 8).map (chanReg 0)

/-- The rows of bus reads or writes. -/
def busRows (we : Bool) : List TableRow := globalRegs.map (globalRow we) ++ chanRegs.map (chanRow we) ++ [unmappedRow we]

/-- The rows of an enabled RX step but RX_MARKER, whose match holds a parameter. -/
def enabledRows : List TableRow :=
  [("RX_SKIP", 0x3000, 0xFC00, false), ("RX_DATA", 0x3400, 0xFE00, false), ("RX_CHECK_OK", 0x3700, 0xFF00, false),
   ("RX_CHECK_BAD", 0x3600, 0xFF00, false), ("RX_RESERVED", 0x3800, 0xF800, false)]

def drainRow : TableRow := ("RX_DRAIN", 0x2000, 0xF000, false)

def markerRow (cfg : Config) : TableRow := ("RX_MARKER", 0x3000 + cfg.marker.toNat, 0xFCFF, false)

def rxRows (cfg : Config) : List TableRow := drainRow :: markerRow cfg :: enabledRows

def visitRows : List TableRow :=
  [("VISIT_OFF", 0x4000, 0xF000, false), ("VISIT_IDLE", 0x5000, 0xFC00, false), ("VISIT_AGE", 0x5400, 0xFC00, false),
   ("VISIT_DISPATCH", 0x5800, 0xFC00, false), ("VISIT_RESERVED", 0x5C00, 0xFC00, false)]

def xfRows : List TableRow := [("XF_REJECT", 0x6000, 0xF000, false), ("XF_ACCEPT", 0x7000, 0xF000, false)]

/-- The rows of the classes whose rows ask for nothing but the class. -/
def classRows : List TableRow :=
  [("OUT_POP", 0x8000, 0xE000, false), ("RESET", 0xA000, 0xE000, false), ("EV_RESERVED", 0xC000, 0xC000, false)]

theorem opcodeTable_eq (cfg : Config) :
    opcodeTable cfg = busRows false ++ busRows true ++ rxRows cfg ++ visitRows ++ xfRows ++ classRows := by
  simp only [opcodeTable, List.cons_append, List.nil_append]
  rfl

/-! ## The rows of another class do not fit -/

section
variable (cfg : Config) {w : EventWord}

theorem firstFit_busRows_none {we : Bool} (h : w.toNat / 0x1000 ≠ we.toNat) : firstFit cfg (busRows we) w = none := by
  refine firstFit_none_of_high (k := 12) ?_ h
  cases we <;> unfold AsksHigh <;> decide

theorem markerRow_asksHigh : AsksHigh 13 1 (markerRow cfg) := by
  have := cfg.marker.isLt
  simp only [AsksHigh, markerRow, BitVec.toNat_ofNat]
  omega

theorem firstFit_rxRows_none (h : w.toNat / 0x2000 ≠ 1) : firstFit cfg (rxRows cfg) w = none := by
  have hdrain : AsksHigh 13 1 drainRow := ⟨rfl, rfl⟩
  have henabled : ∀ row ∈ enabledRows, AsksHigh 13 1 row := by unfold AsksHigh; decide
  exact firstFit_none_of_high
    (List.forall_mem_cons.2 ⟨hdrain, List.forall_mem_cons.2 ⟨markerRow_asksHigh cfg, henabled⟩⟩) h

theorem firstFit_visitRows_none (h : w.toNat / 0x2000 ≠ 2) : firstFit cfg visitRows w = none := by
  refine firstFit_none_of_high (k := 13) ?_ h
  unfold AsksHigh; decide

theorem firstFit_xfRows_none (h : w.toNat / 0x2000 ≠ 3) : firstFit cfg xfRows w = none := by
  refine firstFit_none_of_high (k := 13) ?_ h
  unfold AsksHigh; decide

end

/-! ## Bus words -/

section
variable {cfg : Config} {a : Addr} (we : Bool)

theorem rowFits_globalRow {i : Nat} {r : BusReg} (h : globalReg i = some r) :
    rowFits cfg (globalRow we r) (busWord we a) = true ↔ busTarget cfg a = some r := by
  have := we.toNat_lt
  have haddr : 0x1000 * we.toNat + (regAddr r).toNat < 2 ^ 16 := by omega
  have hmask : busWord we a &&& BitVec.ofNat 16 0xFFFF = busWord we a := BitVec.and_allOnes
  rw [rowFits_iff, busTarget_eq_some_iff, globalRow, hmask, ← BitVec.toNat_inj, ← BitVec.toNat_inj, toNat_busWord,
    BitVec.toNat_ofNat, Nat.mod_eq_of_lt haddr, Nat.add_left_cancel_iff]
  simp [present_global cfg h]

theorem rowFits_chanRow {i : Nat} (hi : i < 8) :
    rowFits cfg (chanRow we (chanReg 0 i)) (busWord we a) = true ↔ ∃ c, busTarget cfg a = some (chanReg c i) := by
  have := we.toNat_lt
  have haddr : (regAddr (chanReg 0 i)).toNat = 0x100 + 4 * i := toNat_regAddr_chan 0 hi
  have hchan : (busWord we a).toNat / 0x20 % 8 = a.toNat / 0x20 % 8 := by rw [toNat_busWord]; omega
  have hmask : busWord we a &&& 0xFF1F#16 = BitVec.ofNat 16 (0x1000 * we.toNat + (regAddr (chanReg 0 i)).toNat)
      ↔ a.toNat / 0x100 = 1 ∧ a.toNat % 0x20 = 4 * i := by
    rw [← BitVec.toNat_inj, toNat_and_of_hole (k := 5) (m := 8) (by decide) rfl rfl, toNat_busWord, haddr,
      BitVec.toNat_ofNat]
    omega
  simp only [busTarget_eq_some_iff, present_chan cfg _ hi, ← BitVec.toNat_inj, toNat_regAddr_chan _ hi]
  rw [rowFits_iff, chanRow, hmask, hchan]
  constructor
  · rintro ⟨⟨hpage, hword⟩, hc⟩
    refine ⟨⟨a.toNat / 0x20 % 8, Nat.mod_lt _ (by decide)⟩, hc rfl, ?_⟩
    show a.toNat = 0x100 + 0x20 * (a.toNat / 0x20 % 8) + 4 * i
    omega
  · rintro ⟨c, hc, ha⟩
    have hc8 : c.val < 8 := c.isLt
    have hval : a.toNat / 0x20 % 8 = c.val := by omega
    exact ⟨by omega, fun _ => hval ▸ hc⟩

theorem rowFits_unmappedRow : rowFits cfg (unmappedRow we) (busWord we a) = true := by
  have hw : (busWord we a).toNat / 2 ^ 12 = (busWord we 0#12).toNat / 2 ^ 12 := by
    rw [toNat_busWord, toNat_busWord, BitVec.toNat_ofNat]
    omega
  have hmask : (0xF000#16).toNat % 2 ^ 12 = 0 := rfl
  rw [rowFits_iff, unmappedRow, and_congr_of_div hmask hw]
  cases we <;> exact ⟨rfl, fun h => by cases h⟩

/-- The address names a register whose accesses are the rows of r. -/
def namesRow (cfg : Config) (a : Addr) (r : BusReg) : Bool := (busTarget cfg a).map BusReg.row == some r

theorem row_eq_global_iff {i : Nat} {r t : BusReg} (h : globalReg i = some r) : t.row = r ↔ t = r := by
  have hi := globalReg_lt h
  interval_cases i <;> cases h <;> cases t <;> simp [BusReg.row]

theorem row_eq_chan_iff {i : Nat} {t : BusReg} (hi : i < 8) : t.row = chanReg 0 i ↔ ∃ c, t = chanReg c i := by
  interval_cases i <;> cases t <;> simp [BusReg.row, chanReg]

theorem globalRegs_find? :
    globalRegs.find? (fun r => rowFits cfg (globalRow we r) (busWord we a)) = globalRegs.find? (namesRow cfg a) := by
  refine List.find?_congr fun r hr => ?_
  obtain ⟨i, -, hi⟩ := List.mem_filterMap.1 hr
  rw [Bool.eq_iff_iff, rowFits_globalRow we hi, namesRow, beq_iff_eq, Option.map_eq_some_iff]
  simp [row_eq_global_iff hi]

theorem chanRegs_find? :
    chanRegs.find? (fun r => rowFits cfg (chanRow we r) (busWord we a)) = chanRegs.find? (namesRow cfg a) := by
  refine List.find?_congr fun r hr => ?_
  obtain ⟨i, hi, rfl⟩ := List.mem_map.1 hr
  have hi8 := List.mem_range.1 hi
  rw [Bool.eq_iff_iff, rowFits_chanRow we hi8, namesRow, beq_iff_eq, Option.map_eq_some_iff]
  simp only [row_eq_chan_iff hi8]
  exact ⟨fun ⟨c, hc⟩ => ⟨_, hc, c, rfl⟩, fun ⟨_, hc, c, ht⟩ => ⟨c, ht ▸ hc⟩⟩

theorem firstFit_busRows (d : Word) :
    firstFit cfg (busRows we) (busWord we a) = some (if we then decodeWrite cfg a d else decodeRead cfg a).mnemonic := by
  rw [firstFit, busRows, List.find?_append, List.find?_append, List.find?_map, List.find?_map, List.find?_singleton,
    if_pos (rowFits_unmappedRow we)]
  simp only [Function.comp_def, globalRegs_find?, chanRegs_find?]
  unfold namesRow
  cases h : busTarget cfg a with
  | none =>
    rw [decodeRead_of_none h, decodeWrite_of_none d h]
    cases we <;> rfl
  | some r =>
    rw [decodeRead_of_some h, decodeWrite_of_some d h]
    cases we <;> cases r <;> rfl

end

/-! ## RX words -/

section
variable (cfg : Config) (c : Chan) (chen : Bool) (st : BitVec 2) (last crcm : Bool) (b : Byte)

theorem rowFits_drainRow : rowFits cfg drainRow (rxWord chen st last crcm b) = !chen := by
  have hflags : (rxWord chen st last crcm b).toNat / 2 ^ 12 = (rxWord chen 0#2 false false 0#8).toNat / 2 ^ 12 := by
    have := last.toNat_lt
    have := crcm.toNat_lt
    simp only [toNat_rxWord, Bool.toNat_false, BitVec.toNat_ofNat]
    omega
  rw [rowFits_congr_of_high ⟨rfl, rfl⟩ hflags]
  cases chen <;> rfl

theorem rowFits_markerRow :
    rowFits cfg (markerRow cfg) (rxWord true st last crcm b) = true ↔ st = 0#2 ∧ b = cfg.marker := by
  have := last.toNat_lt
  have := crcm.toNat_lt
  have hhigh : (0xFCFF#16).toNat / 2 ^ 10 = 2 ^ (16 - 10) - 1 := rfl
  have hlow : (0xFCFF#16).toNat % 2 ^ 10 = 2 ^ 8 - 1 := rfl
  rw [rowFits_iff, markerRow, ← BitVec.toNat_inj, ← BitVec.toNat_inj, ← BitVec.toNat_inj,
    toNat_and_of_hole (by decide) hhigh hlow, toNat_rxWord, BitVec.toNat_ofNat, BitVec.toNat_ofNat,
    Bool.toNat_true]
  simp only [Bool.false_eq_true, false_implies, and_true]
  omega

/-- Above the byte, the rows of an enabled step see the flags and the decoder state only. -/
theorem firstFit_enabledRows_congr :
    firstFit cfg enabledRows (rxWord chen st last crcm b) = firstFit cfg enabledRows (rxWord chen st last crcm 0#8) := by
  refine firstFit_congr_of_high (k := 8) (by unfold IgnoresLow; decide) ?_
  rw [toNat_rxWord, toNat_rxWord, BitVec.toNat_ofNat]
  omega

theorem firstFit_rxRows :
    firstFit cfg (rxRows cfg) (rxWord chen st last crcm b) = some (decodeRx cfg c chen st last crcm b).mnemonic := by
  rw [rxRows, firstFit_cons, rowFits_drainRow]
  cases chen with
  | false => rfl
  | true =>
    rw [firstFit_cons, if_neg (by decide), firstFit_enabledRows_congr]
    by_cases hmarker : st = 0#2 ∧ b = cfg.marker
    · rw [if_pos ((rowFits_markerRow cfg st last crcm b).2 hmarker)]
      obtain ⟨rfl, rfl⟩ := hmarker
      rw [decodeRx_marker]
      rfl
    · rw [if_neg fun h => hmarker ((rowFits_markerRow cfg st last crcm b).1 h)]
      obtain rfl | rfl | rfl | rfl := st_cases st
      · have hb : b ≠ cfg.marker := fun h => hmarker ⟨rfl, h⟩
        rw [decodeRx_skip c last crcm hb]
        cases last <;> cases crcm <;> rfl
      all_goals cases last <;> cases crcm <;> rfl

end

/-! ## Words of the other classes -/

section
variable (cfg : Config)

theorem firstFit_visitRows (chen : Bool) (st : BitVec 2) (low : BitVec 10) :
    firstFit cfg visitRows (visitWord chen st low) = some (decodeVisit chen st low).mnemonic := by
  have hlow : (visitWord chen st low).toNat / 2 ^ 10 = (visitWord chen st 0#10).toNat / 2 ^ 10 := by
    rw [toNat_visitWord, toNat_visitWord, BitVec.toNat_ofNat]
    omega
  rw [firstFit_congr_of_high (by unfold IgnoresLow; decide) hlow]
  obtain rfl | rfl | rfl | rfl := st_cases st <;> cases chen <;> rfl

theorem firstFit_xfRows {w : EventWord} (hclass : w.toNat / 0x2000 = 3) :
    firstFit cfg xfRows w = some (if w.getLsbD 12 then Instr.xfAccept else Instr.xfReject).mnemonic := by
  have hacc : w.toNat / 2 ^ 12 = (xfWord (w.getLsbD 12)).toNat / 2 ^ 12 := by
    rw [toNat_xfWord, toNat_getLsbD]
    omega
  rw [firstFit_congr_of_high (by unfold IgnoresLow; decide) hacc]
  cases w.getLsbD 12 <;> rfl

theorem firstFit_classRows_congr {w v : EventWord} (h : w.toNat / 2 ^ 13 = v.toNat / 2 ^ 13) :
    firstFit cfg classRows w = firstFit cfg classRows v :=
  firstFit_congr_of_high (by unfold IgnoresLow; decide) h

theorem firstFit_reservedWord (low : BitVec 14) :
    firstFit cfg classRows (reservedWord low) = some (Instr.evReserved low).mnemonic := by
  obtain h | h := reservedWord_toNat_class low
  · exact firstFit_classRows_congr cfg (v := 0xC000#16) h
  · exact firstFit_classRows_congr cfg (v := 0xE000#16) h

end

/-! ## The whole table -/

theorem tableMnemonic_eq (cfg : Config) (w : EventWord) :
    tableMnemonic cfg w =
      ((((((firstFit cfg (busRows false) w).or (firstFit cfg (busRows true) w)).or (firstFit cfg (rxRows cfg) w)).or
        (firstFit cfg visitRows w)).or (firstFit cfg xfRows w)).or (firstFit cfg classRows w)) := by
  have h : tableMnemonic cfg w = firstFit cfg (opcodeTable cfg) w := rfl
  rw [h, opcodeTable_eq]
  simp only [firstFit_append]

section
variable (cfg : Config) {w : EventWord}

theorem firstFit_bus_none (h : w.toNat / 0x2000 ≠ 0) :
    (firstFit cfg (busRows false) w).or (firstFit cfg (busRows true) w) = none := by
  rw [firstFit_busRows_none cfg (by rw [Bool.toNat_false]; omega),
    firstFit_busRows_none cfg (by rw [Bool.toNat_true]; omega)]
  rfl

/-- The rows before those of POP, RESET and the reserved classes do not fit a word of these. -/
theorem tableMnemonic_of_class (h : 4 ≤ w.toNat / 0x2000) : tableMnemonic cfg w = firstFit cfg classRows w := by
  rw [tableMnemonic_eq, firstFit_bus_none cfg (by omega), firstFit_rxRows_none cfg (by omega),
    firstFit_visitRows_none cfg (by omega), firstFit_xfRows_none cfg (by omega)]
  rfl

end

/-- Settles O2, class by class: the rows of the classes before do not fit, and the first row of the word's own class that
fits is the one the decoder reads. -/
theorem decodeFollowsOpcodeTable : Obligations.DecodeFollowsOpcodeTable := by
  rintro cfg ⟨w, c, d⟩
  show tableMnemonic cfg w = some (decode cfg { word := w, chan := c, data := d }).mnemonic
  cases wordForm w with
  | bus we a =>
    rw [tableMnemonic_eq, decode_busWord]
    cases we with
    | false => rw [firstFit_busRows false d]; rfl
    | true =>
      have hread : (busWord true a).toNat / 0x1000 ≠ false.toNat := by
        rw [toNat_busWord, Bool.toNat_true, Bool.toNat_false]
        omega
      rw [firstFit_busRows_none cfg hread, firstFit_busRows true d]; rfl
  | rx chen st last crcm b =>
    have hclass := rxWord_toNat_class chen st last crcm b
    rw [tableMnemonic_eq, firstFit_bus_none cfg (by omega), firstFit_rxRows cfg c, decode_rxWord]; rfl
  | visit chen st low =>
    have hclass := visitWord_toNat_class chen st low
    rw [tableMnemonic_eq, firstFit_bus_none cfg (by omega), firstFit_rxRows_none cfg (by omega), firstFit_visitRows,
      decode_visitWord]; rfl
  | xf hclass =>
    rw [tableMnemonic_eq, firstFit_bus_none cfg (by omega), firstFit_rxRows_none cfg (by omega),
      firstFit_visitRows_none cfg (by omega), firstFit_xfRows cfg hclass, decode_xf cfg c d hclass]; rfl
  | pop hclass =>
    rw [tableMnemonic_of_class cfg (by omega), decode_pop cfg c d hclass,
      firstFit_classRows_congr cfg (v := popWord) hclass]; rfl
  | reset hclass =>
    rw [tableMnemonic_of_class cfg (by omega), decode_reset cfg c d hclass,
      firstFit_classRows_congr cfg (v := resetWord) hclass]; rfl
  | reserved low =>
    have hclass := reservedWord_toNat_class low
    rw [tableMnemonic_of_class cfg (by omega), firstFit_reservedWord, decode_reservedWord]

end Sys2Proof

/-!
PROOF. The round trip from a word (30_encoding.md R101, R109): what the decoder reads is well-formed, and encoding it gives
back the word, or a word of the same row where the class leaves bits undefined.
-/

namespace Sys2Proof

/-! ## What the decoder reads is well-formed -/

section
variable {cfg : Config}

theorem wellFormed_decodeRead (hlegal : cfg.Legal) (a : Addr) : (decodeRead cfg a).WellFormed cfg = true := by
  cases h : busTarget cfg a with
  | none => simp [decodeRead_of_none h, Instr.WellFormed, (busTarget_eq_none_iff hlegal a).1 h]
  | some r =>
    rw [decodeRead_of_some h, wellFormed_read]
    exact ((busTarget_eq_some_iff cfg a r).1 h).1

theorem wellFormed_decodeWrite (hlegal : cfg.Legal) (a : Addr) (d : Word) :
    (decodeWrite cfg a d).WellFormed cfg = true := by
  cases h : busTarget cfg a with
  | none => simp [decodeWrite_of_none d h, Instr.WellFormed, (busTarget_eq_none_iff hlegal a).1 h]
  | some r =>
    rw [decodeWrite_of_some d h, wellFormed_write]
    exact ((busTarget_eq_some_iff cfg a r).1 h).1

theorem wellFormed_decodeRx (c : Chan) (chen : Bool) (st : BitVec 2) (last crcm : Bool) (b : Byte) :
    (decodeRx cfg c chen st last crcm b).WellFormed cfg = true := by
  cases chen with
  | false => rfl
  | true =>
    obtain rfl | rfl | rfl | rfl := st_cases st
    · by_cases hb : b = cfg.marker
      · rw [hb, decodeRx_marker]; rfl
      · rw [decodeRx_skip c last crcm hb]; simpa [Instr.WellFormed] using hb
    · cases last
      · rfl
      · cases crcm <;> rfl
    · rfl
    · rfl

theorem wellFormed_decodeVisit (chen : Bool) (st : BitVec 2) (low : BitVec 10) :
    (decodeVisit chen st low).WellFormed cfg = true := by
  obtain rfl | rfl | rfl | rfl := st_cases st <;> cases chen <;> rfl

theorem wellFormed_decode (hlegal : cfg.Legal) (e : Event) : (decode cfg e).WellFormed cfg = true := by
  obtain ⟨w, c, d⟩ := e
  cases wordForm w with
  | bus we a =>
    rw [decode_busWord]
    cases we with
    | false => exact wellFormed_decodeRead hlegal a
    | true => exact wellFormed_decodeWrite hlegal a d
  | rx chen st last crcm b => rw [decode_rxWord]; exact wellFormed_decodeRx c chen st last crcm b
  | visit chen st low => rw [decode_visitWord]; exact wellFormed_decodeVisit chen st low
  | xf hclass => rw [decode_xf cfg c d hclass]; cases w.getLsbD 12 <;> rfl
  | pop hclass => rw [decode_pop cfg c d hclass]; rfl
  | reset hclass => rw [decode_reset cfg c d hclass]; rfl
  | reserved low => rw [decode_reservedWord]; rfl

/-! ## Encoding what was decoded -/

/-- The BUS, RX and reserved classes leave no bit undefined. -/
theorem encode_decode_of_defined (e : Event) (h : e.word.toNat < 0x4000 ∨ 0xC000 ≤ e.word.toNat) :
    encode cfg (decode cfg e) = e.word := by
  obtain ⟨w, c, d⟩ := e
  replace h : w.toNat < 0x4000 ∨ 0xC000 ≤ w.toNat := h
  cases wordForm w with
  | bus we a =>
    rw [decode_busWord]
    cases we with
    | false => exact congrArg Event.word (event_decodeRead cfg a)
    | true => exact congrArg Event.word (event_decodeWrite cfg a d)
  | rx chen st last crcm b => rw [decode_rxWord]; exact congrArg Event.word (event_decodeRx cfg c chen st last crcm b)
  | visit chen st low =>
    have hclass := visitWord_toNat_class chen st low
    omega
  | xf hclass => omega
  | pop hclass => omega
  | reset hclass => omega
  | reserved low => rw [decode_reservedWord]; rfl

end

/-- Settles O3: that the row stays is O1 and O2 together, since what was decoded is well-formed. -/
theorem decodedInstructionsReencode : Obligations.DecodedInstructionsReencode := by
  intro cfg e hlegal
  have hwf := wellFormed_decode hlegal e
  refine ⟨hwf, encode_decode_of_defined e, ?_⟩
  calc tableMnemonic cfg (encode cfg (decode cfg e))
    _ = some (decode cfg ((decode cfg e).event cfg)).mnemonic := decodeFollowsOpcodeTable cfg ((decode cfg e).event cfg)
    _ = some (decode cfg e).mnemonic := by rw [decodeEncodeRoundTrip cfg (decode cfg e) hlegal hwf]
    _ = tableMnemonic cfg e.word := (decodeFollowsOpcodeTable cfg e).symm

end Sys2Proof

/-!
PROOF. The event of each agent's turn (30_encoding.md R101 to R107): formed from the turn's inputs and the state before the
step.
-/

namespace Sys2Proof.Machine

/-! ## The event of each turn -/

section
variable {s : State} {rest : List Stimulus}

theorem State.nextEvent_rd {a : Addr} (hturn : s.env.stim = .rd a :: rest) :
    s.nextEvent = some { word := busWord false a, chan := 0, data := 0#32 } := by
  rw [State.nextEvent, hturn]

theorem State.nextEvent_wr {a : Addr} {d : Word} (hturn : s.env.stim = .wr a d :: rest) :
    s.nextEvent = some { word := busWord true a, chan := 0, data := d } := by
  rw [State.nextEvent, hturn]

theorem State.nextEvent_take {c : Chan} {b : Byte} {bytes : List Byte} (hturn : s.env.stim = .take c :: rest)
    (hc : c.val < s.cfg.nch) (hq : s.env.inq[c] = b :: bytes) (hen : s.hw.ctrl.en = true)
    (hready : (s.chan c).chEn = false ∨ (s.chan c).st ≠ READY) :
    s.nextEvent = some { word := s.rxWordFor c b, chan := c, data := 0#32 } := by
  have hexists : s.rxExists c = true := (s.rxExists_iff c).2 ⟨hc, hen, by simp [hq], hready⟩
  simp only [State.nextEvent, hturn, hexists, State.headByte_cons hq, if_true, Option.map_some]

theorem State.nextEvent_visit (hturn : s.env.stim = .visit :: rest) (hen : s.hw.ctrl.en = true)
    (hbusy : s.hw.xf.busy = false) : s.nextEvent = some { word := s.visitWordFor, chan := 0, data := 0#32 } := by
  have hexists : s.visitExists = true := by simp [State.visitExists, hen, hbusy]
  simp only [State.nextEvent, hturn, hexists, if_true]

theorem State.nextEvent_xf (hturn : s.env.stim = .xf :: rest) (hbusy : s.hw.xf.busy = true)
    (hroom : s.hw.xf.acc = true → s.hw.outq.length < s.cfg.outDepth) :
    s.nextEvent = some { word := xfWord s.hw.xf.acc, chan := 0, data := 0#32 } := by
  have hexists : s.xfExists = true := by
    cases hacc : s.hw.xf.acc with
    | false => simp [State.xfExists, hbusy, hacc]
    | true => simp [State.xfExists, hbusy, hroom hacc]
  simp only [State.nextEvent, hturn, hexists, if_true]

theorem State.nextEvent_pop (hturn : s.env.stim = .pop :: rest) (hq : s.hw.outq ≠ []) :
    s.nextEvent = some { word := popWord, chan := 0, data := 0#32 } := by
  simp [State.nextEvent, hturn, hq]

theorem State.nextEvent_reset (hturn : s.env.stim = .reset :: rest) :
    s.nextEvent = some { word := resetWord, chan := 0, data := 0#32 } := by
  rw [State.nextEvent, hturn]

end

/-! ## The words as numbers -/

theorem State.toNat_rxWordFor (s : State) (c : Chan) (b : Byte) :
    (s.rxWordFor c b).toNat
      = 0x2000 + 0x1000 * (s.chan c).chEn.toNat + 0x400 * (s.chan c).st.toNat
        + 0x200 * (if (s.chan c).cur.toNat = s.cfg.pktLen - 1 then 1 else 0)
        + 0x100 * (if b = (s.chan c).crc then 1 else 0) + b.toNat := by
  have hlast : ((s.chan c).atLast s.cfg.pktLen).toNat = if (s.chan c).cur.toNat = s.cfg.pktLen - 1 then 1 else 0 := by
    rw [Channel.atLast, Bool.toNat, Bool.cond_decide]
  have hcrcm : (b == (s.chan c).crc).toNat = if b = (s.chan c).crc then 1 else 0 := by
    rw [beq_eq_decide, Bool.toNat, Bool.cond_decide]
  rw [State.rxWordFor, toNat_rxWord, hlast, hcrcm]

theorem State.toNat_visitWordFor (s : State) :
    s.visitWordFor.toNat = 0x4000 + 0x1000 * (s.chan s.hw.sp).chEn.toNat + 0x400 * (s.chan s.hw.sp).st.toNat :=
  toNat_visitWord _ _ 0#10

/-- Settles O6, agent by agent. -/
theorem eventWordsFormedFromState : Obligations.EventWordsFormedFromState := by
  intro s rest
  refine ⟨fun a hturn => ?read, fun a d hturn => ?write, fun c b bytes hc hturn hq hen hready => ?take,
    fun hturn hen hbusy => ?visit, fun hturn hbusy hacc hroom => ?accept, fun hturn hbusy hacc => ?reject,
    fun hturn hq => ?pop, fun hturn => ?reset⟩
  case read => exact ⟨_, State.nextEvent_rd hturn, by simp [toNat_busWord]⟩
  case write => exact ⟨_, State.nextEvent_wr hturn, by simp [toNat_busWord], rfl⟩
  case take => exact ⟨_, State.nextEvent_take hturn hc hq hen hready, rfl, s.toNat_rxWordFor c b⟩
  case visit => exact ⟨_, State.nextEvent_visit hturn hen hbusy, s.toNat_visitWordFor⟩
  case accept =>
    have h : s.hw.xf.acc = true := s.hw.xf.acc_iff.2 hacc
    exact ⟨_, State.nextEvent_xf hturn hbusy fun _ => hroom, by rw [h]; rfl⟩
  case reject =>
    have h : s.hw.xf.acc = false := Bool.eq_false_iff.2 fun h => hacc (s.hw.xf.acc_iff.1 h)
    exact ⟨_, State.nextEvent_xf hturn hbusy (by simp [h]), by rw [h]; rfl⟩
  case pop => exact ⟨_, State.nextEvent_pop hturn hq, rfl⟩
  case reset => exact ⟨_, State.nextEvent_reset hturn, rfl⟩

end Sys2Proof.Machine

/-!
PROOF. The CRC engine (40_crc.md R121, R122, R126): the default table against its generator, and the self-check of a packet
with its own CRC behind it.
-/

namespace Sys2Proof.Machine

/-- The listing of R121 is compared entry by entry with what its generator gives. -/
theorem defaultCrcTable_entry_eq_crcEntry : ∀ n : Byte, defaultCrcTable.entry n = crcEntry n := by decide

/-- The self-check of R126: the last step looks up entry c XOR c = 0. -/
theorem crcOf_snoc_crcOf {table : Byte → Byte} (h0 : table 0x00#8 = 0x00#8) (p : List Byte) :
    crcOf table (p ++ [crcOf table p]) = 0x00#8 :=
  calc crcOf table (p ++ [crcOf table p])
      = table (crcOf table p ^^^ crcOf table p) := crcOf_snoc table p _
    _ = table 0x00#8 := by rw [BitVec.xor_self]
    _ = 0x00#8 := h0

/-- Settles O59: the listing against its generator, then the CRC's equations for any table. -/
theorem crcTableAndSelfCheck : Obligations.CrcTableAndSelfCheck :=
  ⟨defaultCrcTable_entry_eq_crcEntry, fun table => ⟨crcOf_nil table, crcOf_snoc table, crcOf_snoc_crcOf⟩⟩

end Sys2Proof.Machine

/-!
PROOF. The frame decoder (41_frame_decoder.md): every RX row takes the head byte of its channel's queue and replaces the
channel's state, said once for the class as `State.receive`; from that the six rows (R131 to R137), the isolation of the
channels (R141) and the wait of a READY packet (R135).
-/

namespace Sys2Proof.Machine

/-! ## What an RX row makes of its channel -/

/-- The channel that starts a packet with the marker (R131). -/
def Channel.startPacket (cfg : Config) (ch : Channel) : Channel :=
  { ch with
    buf := ch.buf.write 0 cfg.marker, crc := crcStep cfg.crc 0x00#8 cfg.marker, cur := 1#7, age := 0#16, st := ACCUM }

/-- The channel that takes one byte more into its packet (R132). -/
def Channel.storeByte (cfg : Config) (ch : Channel) (b : Byte) : Channel :=
  { ch with buf := ch.buf.write ch.cur.toNat b, crc := crcStep cfg.crc ch.crc b, cur := ch.cur + 1#7 }

/-- The channel that validates its packet with the checksum byte (R133). -/
def Channel.validate (cfg : Config) (diagEn : Bool) (ch : Channel) (b : Byte) : Channel :=
  { ch with
    buf := ch.buf.write (cfg.pktLen - 1) b, cur := BitVec.ofNat 7 cfg.pktLen, st := READY
    cntOk := countUp diagEn ch.cntOk }

/-- The channel that gives up its packet for a wrong checksum (R136). -/
def Channel.discard (diagEn : Bool) (ch : Channel) : Channel :=
  { ch.toSearch with cntCrc := countUp diagEn ch.cntCrc }

/-- What a row of the RX class makes of its channel's state. -/
def Channel.rxRow (cfg : Config) (diagEn : Bool) (ch : Channel) : Instr → Channel
  | .rxMarker _ _ _ => ch.startPacket cfg
  | .rxData _ _ b => ch.storeByte cfg b
  | .rxCheckOk _ b => ch.validate cfg diagEn b
  | .rxCheckBad _ _ => ch.discard diagEn
  | _ => ch

/-- The trace label of a row of the RX class, by default the one that stood before. -/
def rxLabel (before : ErrorEvent) : Instr → ErrorEvent
  | .rxCheckBad c _ => .checksumError c
  | _ => before

/-- Whether the state forms the event word of a row of the RX class (30_encoding.md R103). -/
def State.formsRx (s : State) : Instr → Bool
  | .rxDrain c st last crcm b => s.rxForms c false st last crcm b
  | .rxMarker c last crcm => s.rxForms c true SEARCH last crcm s.cfg.marker
  | .rxSkip c last crcm b => s.rxForms c true SEARCH last crcm b
  | .rxData c crcm b => s.rxForms c true ACCUM false crcm b
  | .rxCheckOk c b => s.rxForms c true ACCUM true true b
  | .rxCheckBad c b => s.rxForms c true ACCUM true false b
  | _ => false

/-- The machine whose channel c has taken its byte and is now `ch`, with the label e. -/
def State.receive (s : State) (c : Chan) (ch : Channel) (e : ErrorEvent) : State :=
  ((s.takeByte c).raise e).setChan c ch

/-- A byte taken without any effect is only taken. -/
theorem State.receive_chan (s : State) (c : Chan) : s.receive c (s.chan c) s.env.raised = s.takeByte c := by
  show { s.takeByte c with hw := s.hw.setChan c (s.hw.chan c) } = s.takeByte c
  rw [Block.setChan_chan]
  rfl

section
variable {s t : State} {i : Instr} {c d : Chan} {ch : Channel} {e : ErrorEvent}

@[simp] theorem State.chan_receive_same : (s.receive c ch e).chan c = ch := State.chan_setChan_same ..

theorem State.chan_receive_other (hd : d ≠ c) : (s.receive c ch e).chan d = s.chan d := State.chan_setChan_other _ _ hd

theorem State.inq_receive :
    (s.receive c ch e).env.inq[d] = if d = c then s.env.inq[c].tail else s.env.inq[d] := s.inq_takeByte c d

/-! ## The meaning of an RX row -/

/-- Where the state forms the row, the channel takes its byte; RX_DATA also needs its cursor inside the buffer (log 8). -/
theorem exec_rx_of_formed (hrow : IsRxOf c i) (hformed : s.formsRx i = true)
    (hcur : ∀ crcm b, i = .rxData c crcm b → (s.chan c).cur.toNat < s.cfg.pktLen) :
    exec i s = .next (s.receive c ((s.chan c).rxRow s.cfg s.hw.ctrl.diagEn i) (rxLabel s.env.raised i)) := by
  cases i with
  | rxDrain | rxSkip =>
    obtain rfl := hrow
    exact (if_pos hformed).trans (congrArg _ (s.receive_chan _).symm)
  | rxMarker | rxCheckOk | rxCheckBad =>
    obtain rfl := hrow
    exact if_pos hformed
  | rxData c' crcm b =>
    obtain rfl := hrow
    exact (if_pos hformed).trans (if_pos (hcur crcm b rfl))
  | _ => exact hrow.elim

/-- Where the state does not form the row, nothing changes (log 2). -/
theorem exec_rx_of_not_formed (hrow : IsRxOf c i) (hformed : ¬s.formsRx i = true) : exec i s = .next s := by
  cases i with
  | rxDrain | rxSkip | rxMarker | rxData | rxCheckOk | rxCheckBad => exact if_neg hformed
  | _ => exact hrow.elim

/-- RX_DATA that goes on had its cursor inside the buffer. -/
theorem cur_lt_of_exec_rxData {crcm : Bool} {b : Byte} (hformed : s.formsRx (.rxData c crcm b) = true)
    (h : exec (.rxData c crcm b) s = .next t) : (s.chan c).cur.toNat < s.cfg.pktLen := by
  by_contra hcur
  have hfault : exec (.rxData c crcm b) s = .fault (.bufferAddress c (s.chan c).cur.toNat) :=
    (if_pos hformed).trans (if_neg hcur)
  cases hfault.symm.trans h

/-- The inversion of an RX row that goes on. -/
theorem exec_rx_cases (hrow : IsRxOf c i) (h : exec i s = .next t) :
    (¬s.formsRx i = true ∧ t = s)
    ∨ (s.formsRx i = true
        ∧ t = s.receive c ((s.chan c).rxRow s.cfg s.hw.ctrl.diagEn i) (rxLabel s.env.raised i)) := by
  by_cases hformed : s.formsRx i = true
  · have hcur (crcm b) (hi : i = .rxData c crcm b) : (s.chan c).cur.toNat < s.cfg.pktLen := by
      subst hi
      exact cur_lt_of_exec_rxData hformed h
    exact .inr ⟨hformed, Host.Outcome.next.inj (h.symm.trans (exec_rx_of_formed hrow hformed hcur))⟩
  · exact .inl ⟨hformed, Host.Outcome.next.inj (h.symm.trans (exec_rx_of_not_formed hrow hformed))⟩

/-! ## What an RX row leaves as it was -/

/-- The channel with the decoder and the RX counters of another, and its own configuration (R141). -/
def Channel.withDecoderOf (ch ch' : Channel) : Channel :=
  { ch with
    st := ch'.st, cur := ch'.cur, crc := ch'.crc, age := ch'.age, buf := ch'.buf, cntOk := ch'.cntOk
    cntCrc := ch'.cntCrc }

theorem Channel.rxRow_eq_withDecoderOf (cfg : Config) (diagEn : Bool) (ch : Channel) (i : Instr) :
    ch.rxRow cfg diagEn i = ch.withDecoderOf (ch.rxRow cfg diagEn i) := by
  cases i <;> rfl

/-- A channel whose decoder alone has changed is the whole change of the step (R130, R141). -/
theorem State.receive_frame {b : Byte} {rest : List Byte} (hq : s.env.inq[c] = b :: rest)
    (hch : ch = (s.chan c).withDecoderOf ch) : RxFrame s (s.receive c ch e) c rest := by
  refine ⟨?_, fun d hd => ⟨chan_receive_other hd, ?_⟩, rfl, rfl, rfl, rfl, ?_⟩
  · rw [inq_receive, if_pos rfl, hq, List.tail_cons]
  · rw [inq_receive, if_neg hd]
  · rw [chan_receive_same]; exact hch

end

/-! ## Channel isolation (R141) -/

/-- Two channels that an RX row cannot tell apart: the same decoder, RX counters and CH_EN. -/
structure Channel.SameDecoder (ch ch' : Channel) : Prop where
  st : ch.st = ch'.st
  cur : ch.cur = ch'.cur
  crc : ch.crc = ch'.crc
  age : ch.age = ch'.age
  buf : ch.buf = ch'.buf
  cntOk : ch.cntOk = ch'.cntOk
  cntCrc : ch.cntCrc = ch'.cntCrc
  chEn : ch.chEn = ch'.chEn

theorem sameRxView_iff (s s' : State) (c : Chan) :
    SameRxView s s' c ↔ (s.chan c).SameDecoder (s'.chan c) ∧ s.env.inq[c] = s'.env.inq[c]
      ∧ s.hw.ctrl.en = s'.hw.ctrl.en ∧ s.hw.ctrl.diagEn = s'.hw.ctrl.diagEn ∧ s.cfg = s'.cfg := by
  constructor
  · rintro ⟨hst, hcur, hcrc, hage, hbuf, hok, hbad, hchEn, hrest⟩
    exact ⟨⟨hst, hcur, hcrc, hage, hbuf, hok, hbad, hchEn⟩, hrest⟩
  · rintro ⟨⟨hst, hcur, hcrc, hage, hbuf, hok, hbad, hchEn⟩, hrest⟩
    exact ⟨hst, hcur, hcrc, hage, hbuf, hok, hbad, hchEn, hrest⟩

/-- An RX row makes channels alike of channels alike. -/
theorem Channel.SameDecoder.rxRow {ch ch' : Channel} (h : ch.SameDecoder ch') (cfg : Config) (diagEn : Bool) (i : Instr) :
    (ch.rxRow cfg diagEn i).SameDecoder (ch'.rxRow cfg diagEn i) := by
  cases i with
  | rxMarker =>
    exact { h with
      st := rfl, cur := rfl, crc := rfl, age := rfl
      buf := congrArg (Memory.write · 0 cfg.marker) h.buf }
  | rxData _ _ b =>
    exact { h with
      cur := congrArg (· + 1#7) h.cur
      crc := congrArg (crcStep cfg.crc · b) h.crc
      buf := congrArg₂ (fun (m : Memory) (n : BitVec 7) => m.write n.toNat b) h.buf h.cur }
  | rxCheckOk _ b =>
    exact { h with
      st := rfl, cur := rfl
      buf := congrArg (Memory.write · (cfg.pktLen - 1) b) h.buf
      cntOk := congrArg (countUp diagEn) h.cntOk }
  | rxCheckBad =>
    exact { h with
      st := rfl, cur := rfl, crc := rfl, age := rfl
      cntCrc := congrArg (countUp diagEn) h.cntCrc }
  | _ => exact h

section
variable {s s' t : State} {i : Instr} {c : Chan}

/-- The event word is formed from what the row may read. -/
theorem SameRxView.rxForms_eq (h : SameRxView s s' c) (chen : Bool) (st : BitVec 2) (last crcm : Bool) (b : Byte) :
    s.rxForms c chen st last crcm b = s'.rxForms c chen st last crcm b := by
  obtain ⟨hch, hq, hen, -, hcfg⟩ := (sameRxView_iff s s' c).mp h
  simp only [State.rxForms, State.rxExists, State.headByte, Channel.atLast, hch.st, hch.cur, hch.crc, hch.chEn, hq, hen,
    hcfg]

theorem SameRxView.formsRx_eq (h : SameRxView s s' c) (hrow : IsRxOf c i) : s.formsRx i = s'.formsRx i := by
  obtain ⟨-, -, -, -, hcfg⟩ := (sameRxView_iff s s' c).mp h
  cases i with
  | rxDrain | rxSkip | rxData | rxCheckOk | rxCheckBad =>
    obtain rfl := hrow
    exact h.rxForms_eq ..
  | rxMarker =>
    obtain rfl := hrow
    exact (h.rxForms_eq ..).trans (congrArg _ (congrArg Config.marker hcfg))
  | _ => exact hrow.elim

theorem SameRxView.receive (h : SameRxView s s' c) {ch ch' : Channel} (hch : ch.SameDecoder ch') (e e' : ErrorEvent) :
    SameRxView (s.receive c ch e) (s'.receive c ch' e') c := by
  obtain ⟨-, hq, hrest⟩ := (sameRxView_iff s s' c).mp h
  refine (sameRxView_iff ..).mpr ⟨by simpa using hch, ?_, hrest⟩
  rw [State.inq_receive, State.inq_receive, hq]

end

/-- Settles O30: the row's one effect is `State.receive`, which is a function of what the row may read. -/
theorem rxStepsIsolateChannels : Obligations.RxStepsIsolateChannels := by
  intro i c hrow
  constructor
  · intro s t h
    obtain ⟨-, rfl⟩ | ⟨-, rfl⟩ := exec_rx_cases hrow h
    · exact ⟨fun _ _ => ⟨rfl, rfl⟩, rfl, rfl⟩
    · refine ⟨fun d hd => ⟨State.chan_receive_other hd, ?_⟩, rfl, ?_⟩
      · rw [State.inq_receive, if_neg hd]
      · rw [State.chan_receive_same]; exact Channel.rxRow_eq_withDecoderOf ..
  · intro s₁ s₂ t₁ t₂ hview h₁ h₂
    have hformed : s₁.formsRx i = s₂.formsRx i := hview.formsRx_eq hrow
    obtain ⟨hn, rfl⟩ | ⟨hf, rfl⟩ := exec_rx_cases hrow h₁
    · obtain ⟨-, rfl⟩ | ⟨hf, -⟩ := exec_rx_cases hrow h₂
      · exact hview
      · exact absurd (hformed.trans hf) hn
    · obtain ⟨hn, -⟩ | ⟨-, rfl⟩ := exec_rx_cases hrow h₂
      · exact absurd (hformed.symm.trans hf) hn
      · obtain ⟨hch, -, -, hdiag, hcfg⟩ := (sameRxView_iff s₁ s₂ c).mp hview
        rw [hdiag, hcfg]
        exact hview.receive (hch.rxRow ..) _ _

/-! ## READY holds the input (R135) -/

section
variable {s t : State} {i : Instr} {c : Chan} {ch : Channel}

/-- No RX row of an enabled channel is formed while its packet is READY (R130). -/
theorem not_formsRx_of_ready (hrow : IsRxOf c i) (hen : (s.chan c).chEn = true) (hst : (s.chan c).st = READY) :
    ¬s.formsRx i = true := by
  have not_forms (chen : Bool) (st : BitVec 2) (last crcm : Bool) (b : Byte) :
      ¬s.rxForms c chen st last crcm b = true := by
    intro hforms
    obtain ⟨-, -, -, hready, hchen, hst', -⟩ := (s.rxForms_iff ..).mp hforms
    rw [← hchen, ← hst', hen, hst] at hready
    simp at hready
  cases i with
  | rxDrain | rxMarker | rxSkip | rxData | rxCheckOk | rxCheckBad =>
    obtain rfl := hrow
    exact fun hformed => not_forms _ _ _ _ _ hformed
  | _ => exact hrow.elim

theorem State.writeCfg_env (s : State) (f : Block → Block) : (s.writeCfg f).env = s.env := by
  unfold State.writeCfg
  split <;> rfl

theorem inq_of_next {u : State} (h : Host.Outcome.next (φ := Fault) (ρ := Refusal) u = .next t)
    (hu : u.env.inq = s.env.inq) : t.env.inq = s.env.inq := by
  obtain rfl := Host.Outcome.next.inj h
  exact hu

theorem inq_of_guarded {guard : Prop} [Decidable guard] {o : Host.Outcome State Fault Refusal}
    (h : (if guard then o else .next s) = .next t) (hrow : o = .next t → t.env.inq = s.env.inq) :
    t.env.inq = s.env.inq := by
  split at h
  next => exact hrow h
  next => exact inq_of_next h rfl

/-- Only RX rows take bytes: after any other the input queues stand as before. -/
theorem exec_inq_of_not_rx (hrow : ∀ c, ¬IsRxOf c i) (h : exec i s = .next t) : t.env.inq = s.env.inq := by
  cases i with
  | rxDrain c | rxMarker c | rxSkip c | rxData c | rxCheckOk c | rxCheckBad c => exact absurd rfl (hrow c)
  | wrFiltDist | wrFiltInt | wrTimeout | wrChCfg | wrChAng | wrChPos => exact inq_of_next h (by rw [State.writeCfg_env])
  | visitOff | visitIdle | visitDispatch | xfReject | xfAccept => exact inq_of_guarded h fun ho => inq_of_next ho rfl
  | visitAge =>
    refine inq_of_guarded h fun ho => ?_
    split at ho
    next => exact inq_of_next ho rfl
    next => exact inq_of_next ho rfl
  | outPop => exact inq_of_next ((exec_outPop s).symm.trans h) rfl
  | _ => exact inq_of_next h rfl

/-- An instruction takes no byte of a channel whose packet is READY. -/
theorem exec_inq_of_ready (hen : (s.chan c).chEn = true) (hst : (s.chan c).st = READY) (h : exec i s = .next t) :
    t.env.inq[c] = s.env.inq[c] := by
  by_cases hrow : ∃ d, IsRxOf d i
  · obtain ⟨d, hrow⟩ := hrow
    obtain ⟨-, rfl⟩ | ⟨hformed, rfl⟩ := exec_rx_cases hrow h
    · rfl
    · have hcd : c ≠ d := by
        rintro rfl
        exact not_formsRx_of_ready hrow hen hst hformed
      rw [State.inq_receive, if_neg hcd]
  · push Not at hrow
    rw [exec_inq_of_not_rx hrow h]

/-- The rows that release a READY packet of channel c: its dispatch, and the write that clears its CH_EN (R135). -/
def Releases (s : State) (c : Chan) (i : Instr) : Prop :=
  (i = .visitDispatch ∧ s.hw.sp = c) ∨ ∃ d, i = .wrChCfg c d ∧ s.hw.ctrl.en = false ∧ d.getLsbD 8 = false

/-- Every other row that changes the channel leaves its packet, since it asks for another decoder state or touches only
configuration and counters. -/
theorem ChannelStep.ready_held (h : ChannelStep s i c ch) (hen : (s.chan c).chEn = true) (hst : (s.chan c).st = READY)
    (hkept : ¬Releases s c i) :
    ch.st = READY ∧ ch.chEn = true ∧ ch.cur = (s.chan c).cur ∧ ch.buf = (s.chan c).buf := by
  have other_state {st : BitVec 2} (hst' : (s.chan c).st = st) : st = READY := hst'.symm.trans hst
  cases h with
  | wrChCfg _ d hctrl hkeep => exact ⟨hst, by simpa [hen] using hkeep, rfl, rfl⟩
  | wrChCfgOff _ d hctrl hclear =>
    exact absurd (.inr ⟨d, rfl, hctrl, by simpa [hen] using hclear⟩) hkept
  | wrChAng | wrChPos | wrCntOk | wrCntCrc | wrCntTmo | wrCntRej | xfReject => exact ⟨hst, hen, rfl, rfl⟩
  | rxMarker _ _ _ hforms | rxData _ _ _ hforms | rxCheckOk _ _ hforms | rxCheckBad _ _ hforms =>
    obtain ⟨-, -, -, -, -, hst', -⟩ := (s.rxForms_iff ..).mp hforms
    exact absurd (other_state hst') (by decide)
  | aged hforms | timeout hforms =>
    obtain ⟨-, -, -, hst'⟩ := (s.visitForms_iff ..).mp hforms
    exact absurd (other_state hst') (by decide)
  | dispatch => exact absurd (.inl ⟨rfl, rfl⟩) hkept

theorem State.inq_noStep (s : State) (c : Chan) : ∃ more, s.noStep.env.inq[c] = s.env.inq[c] ++ more := by
  obtain h | ⟨d, bytes, h⟩ := s.noStep_cases
  · exact ⟨[], by rw [h, List.append_nil]; rfl⟩
  · rw [h, State.inq_offerBytes]
    split
    next hcd => subst hcd; exact ⟨bytes, rfl⟩
    next => exact ⟨[], (List.append_nil _).symm⟩

end

/-- Settles O31: of the instructions that change a READY channel only the releasing ones touch its packet, and none takes
its bytes; in a turn that passes, bytes are only appended. -/
theorem readyHoldsUntilReleased : Obligations.ReadyHoldsUntilReleased := by
  intro s t c hen hst hstep hreset hdispatch hclear
  obtain ⟨-, ⟨i, hi, hexec⟩ | ⟨-, rfl⟩⟩ := step_next_cases hstep
  · have hkept : ¬Releases s.endTurn c i := by
      rintro (⟨rfl, hsp⟩ | ⟨d, rfl, hctrl, hd⟩)
      · exact hdispatch ⟨hi, hsp⟩
      · have hctrl : s.hw.ctrl.en = false := hctrl
        obtain h | h := hclear d hi
        · cases hctrl.symm.trans h
        · cases hd.symm.trans h
    have hinq : t.env.inq[c] = s.env.inq[c] := exec_inq_of_ready (s := s.endTurn) hen hst hexec
    have hpacket : (t.chan c).st = READY ∧ (t.chan c).chEn = true ∧ (t.chan c).cur = (s.chan c).cur
        ∧ (t.chan c).buf = (s.chan c).buf := by
      obtain hsame | hch := (exec_effect hexec).hw.chan_cases_of_ne_reset (fun he => hreset (he ▸ hi)) c
      · rw [State.chan_eq t, hsame]; exact ⟨hst, hen, rfl, rfl⟩
      · exact hch.ready_held hen hst hkept
    obtain ⟨hst', hen', hcur, hbuf⟩ := hpacket
    exact ⟨hst', hen', hcur, hbuf, [], by rw [hinq, List.append_nil]⟩
  · have hchan : s.noStep.chan c = s.chan c := by rw [State.chan_eq, State.noStep_hw]; rfl
    rw [hchan]
    exact ⟨hst, hen, rfl, rfl, s.inq_noStep c⟩

end Sys2Proof.Machine

/-!
PROOF. The six rows of the RX class on a byte that is offered (41_frame_decoder.md R131 to R137): the event word that
selects each row, and the channel the row leaves.
-/

namespace Sys2Proof.Machine

/-- Channel c, one of the block's, is offered the byte b while CTRL.EN = 1, with `rest` behind it (R130). -/
structure Offered (s : State) (c : Chan) (b : Byte) (rest : List Byte) : Prop where
  lt : c.val < s.cfg.nch
  en : s.hw.ctrl.en = true
  queue : s.env.inq[c] = b :: rest

/-! ## The words of the RX class -/

/-- The number of an RX word selects the row that the fields of the word select (30_encoding.md R103). -/
theorem rowOf_decodeRx (cfg : Config) (c : Chan) (d : Word) {w : Nat} {chen : Bool} {st : BitVec 2} {last crcm : Bool}
    {b : Byte} (hw : w = (rxWord chen st last crcm b).toNat) :
    RowOf cfg w c d (decodeRx cfg c chen st last crcm b) := by
  rw [RowOf, hw, BitVec.ofNat_toNat, BitVec.setWidth_eq]
  exact decode_rxWord ..

section
variable {s : State} {c : Chan} {b : Byte} {rest : List Byte} {last crcm : Bool}

/-- A channel that is offered a byte forms the word of its state and that byte. -/
theorem Offered.rxForms (ho : Offered s c b rest) {chen : Bool} {st : BitVec 2} (hchen : (s.chan c).chEn = chen)
    (hst : (s.chan c).st = st) (hready : chen = false ∨ st ≠ READY)
    (hlast : last = decide ((s.chan c).cur.toNat = s.cfg.pktLen - 1)) (hcrcm : crcm = decide (b = (s.chan c).crc)) :
    s.rxForms c chen st last crcm b = true :=
  (s.rxForms_iff ..).mpr ⟨ho.lt, ho.en, State.headByte_cons ho.queue, hready, hchen, hst, hlast.symm, hcrcm.symm⟩

/-! ## The rows -/

/-- RX_MARKER (R131). -/
theorem Offered.exec_rxMarker (ho : Offered s c s.cfg.marker rest) (hchen : (s.chan c).chEn = true)
    (hst : (s.chan c).st = SEARCH) (hlast : last = decide ((s.chan c).cur.toNat = s.cfg.pktLen - 1))
    (hcrcm : crcm = decide (s.cfg.marker = (s.chan c).crc)) :
    exec (.rxMarker c last crcm) s = .next (s.receive c ((s.chan c).startPacket s.cfg) s.env.raised) :=
  exec_rx_of_formed rfl (ho.rxForms hchen hst (by decide) hlast hcrcm) nofun

/-- RX_SKIP (R137). -/
theorem Offered.exec_rxSkip (ho : Offered s c b rest) (hchen : (s.chan c).chEn = true)
    (hst : (s.chan c).st = SEARCH) (hlast : last = decide ((s.chan c).cur.toNat = s.cfg.pktLen - 1))
    (hcrcm : crcm = decide (b = (s.chan c).crc)) :
    exec (.rxSkip c last crcm b) s = .next (s.takeByte c) :=
  (exec_rx_of_formed (i := .rxSkip c last crcm b) rfl (ho.rxForms hchen hst (by decide) hlast hcrcm) nofun).trans
    (congrArg _ (s.receive_chan c))

/-- RX_DRAIN (R134). -/
theorem Offered.exec_rxDrain (ho : Offered s c b rest) (hchen : (s.chan c).chEn = false)
    (hlast : last = decide ((s.chan c).cur.toNat = s.cfg.pktLen - 1)) (hcrcm : crcm = decide (b = (s.chan c).crc)) :
    exec (.rxDrain c (s.chan c).st last crcm b) s = .next (s.takeByte c) :=
  (exec_rx_of_formed (i := .rxDrain c (s.chan c).st last crcm b) rfl
    (ho.rxForms hchen rfl (.inl rfl) hlast hcrcm) nofun).trans (congrArg _ (s.receive_chan c))

/-- RX_DATA (R132). -/
theorem Offered.exec_rxData (ho : Offered s c b rest) (hchen : (s.chan c).chEn = true)
    (hst : (s.chan c).st = ACCUM) (hcur : (s.chan c).cur.toNat < s.cfg.pktLen - 1)
    (hcrcm : crcm = decide (b = (s.chan c).crc)) :
    exec (.rxData c crcm b) s = .next (s.receive c ((s.chan c).storeByte s.cfg b) s.env.raised) := by
  have hlast : false = decide ((s.chan c).cur.toNat = s.cfg.pktLen - 1) := (decide_eq_false hcur.ne).symm
  exact exec_rx_of_formed rfl (ho.rxForms hchen hst (by decide) hlast hcrcm) fun _ _ _ => by omega

/-- RX_CHECK_OK (R133). -/
theorem Offered.exec_rxCheckOk (ho : Offered s c b rest) (hchen : (s.chan c).chEn = true)
    (hst : (s.chan c).st = ACCUM) (hcur : (s.chan c).cur.toNat = s.cfg.pktLen - 1) (hcrc : b = (s.chan c).crc) :
    exec (.rxCheckOk c b) s = .next (s.receive c ((s.chan c).validate s.cfg s.hw.ctrl.diagEn b) s.env.raised) :=
  exec_rx_of_formed rfl
    (ho.rxForms hchen hst (by decide) (decide_eq_true hcur).symm (decide_eq_true hcrc).symm) nofun

/-- RX_CHECK_BAD (R136). -/
theorem Offered.exec_rxCheckBad (ho : Offered s c b rest) (hchen : (s.chan c).chEn = true)
    (hst : (s.chan c).st = ACCUM) (hcur : (s.chan c).cur.toNat = s.cfg.pktLen - 1) (hcrc : b ≠ (s.chan c).crc) :
    exec (.rxCheckBad c b) s = .next (s.receive c ((s.chan c).discard s.hw.ctrl.diagEn) (.checksumError c)) :=
  exec_rx_of_formed rfl
    (ho.rxForms hchen hst (by decide) (decide_eq_true hcur).symm (decide_eq_false hcrc).symm) nofun

end

/-! ## The fields that a row computes -/

/-- The cursor of a packet that is not full counts one byte more without wrapping. -/
theorem Channel.storeByte_cur_toNat {cfg : Config} {ch : Channel} (b : Byte) (hlegal : cfg.Legal)
    (hcur : ch.cur.toNat < cfg.pktLen - 1) : (ch.storeByte cfg b).cur.toNat = ch.cur.toNat + 1 := by
  obtain ⟨-, -, -, hlen, -⟩ := hlegal
  show (ch.cur + 1#7).toNat = _
  rw [BitVec.toNat_add, BitVec.toNat_ofNat]
  omega

/-- PKT_LEN fits the 7 bits of the cursor (10_state.md R22). -/
theorem Channel.validate_cur_toNat {cfg : Config} (diagEn : Bool) (ch : Channel) (b : Byte) (hlegal : cfg.Legal) :
    (ch.validate cfg diagEn b).cur.toNat = cfg.pktLen := by
  obtain ⟨-, -, -, hlen, -⟩ := hlegal
  exact (BitVec.toNat_ofNat ..).trans (Nat.mod_eq_of_lt (by omega))

/-! ## The obligations on the rows -/

/-- Settles O24: the marker's word selects the row, and the channel is `Channel.startPacket`. -/
theorem rxMarkerStartsPacket : Obligations.RxMarkerStartsPacket := by
  intro s c rest last crcm hc hen hq hchen hst hlast hcrcm
  constructor
  · rw [← decodeRx_marker s.cfg c last crcm]
    exact rowOf_decodeRx _ _ _ (by rw [toNat_rxWord]; rfl)
  · refine ⟨_, Offered.exec_rxMarker ⟨hc, hen, hq⟩ hchen hst hlast hcrcm, State.receive_frame hq rfl, rfl, ?_⟩
    rw [State.chan_receive_same]
    exact ⟨rfl, rfl, rfl, rfl, rfl, rfl, fun a => Memory.read_write ..⟩

/-- Settles O25: the channel is `Channel.storeByte`, whose cursor does not wrap in a legal configuration. -/
theorem rxDataStoresByte : Obligations.RxDataStoresByte := by
  intro s c b rest crcm hlegal hc hen hq hchen hst hcur hcrcm
  constructor
  · exact rowOf_decodeRx (chen := true) (st := ACCUM) (last := false) _ _ _ (by rw [toNat_rxWord]; rfl)
  · refine ⟨_, Offered.exec_rxData ⟨hc, hen, hq⟩ hchen hst hcur hcrcm, State.receive_frame hq rfl, rfl, ?_⟩
    rw [State.chan_receive_same]
    exact ⟨hst, Channel.storeByte_cur_toNat b hlegal hcur, rfl, rfl, rfl, rfl, fun a => Memory.read_write ..⟩

/-- Settles O26: the channel is `Channel.validate`. -/
theorem rxCheckOkMakesReady : Obligations.RxCheckOkMakesReady := by
  intro s c b rest hlegal hc hen hq hchen hst hcur hcrc
  constructor
  · exact rowOf_decodeRx (chen := true) (st := ACCUM) (last := true) (crcm := true) _ _ _ (by rw [toNat_rxWord]; rfl)
  · refine ⟨_, Offered.exec_rxCheckOk ⟨hc, hen, hq⟩ hchen hst hcur hcrc, State.receive_frame hq rfl, rfl, ?_⟩
    rw [State.chan_receive_same]
    exact ⟨rfl, Channel.validate_cur_toNat _ _ b hlegal, rfl, rfl, countUp_counted .., rfl,
      fun a => Memory.read_write ..⟩

/-- Settles O27: the channel is `Channel.discard`. -/
theorem rxCheckBadDiscardsPacket : Obligations.RxCheckBadDiscardsPacket := by
  intro s c b rest hc hen hq hchen hst hcur hcrc
  constructor
  · exact rowOf_decodeRx (chen := true) (st := ACCUM) (last := true) (crcm := false) _ _ _ (by rw [toNat_rxWord]; rfl)
  · refine ⟨_, Offered.exec_rxCheckBad ⟨hc, hen, hq⟩ hchen hst hcur hcrc, State.receive_frame hq rfl, rfl, ?_⟩
    rw [State.chan_receive_same]
    exact ⟨rfl, rfl, rfl, rfl, rfl, countUp_counted .., rfl⟩

/-- Settles O28: both rows answer `State.takeByte`. -/
theorem skippedAndDrainedBytesChangeNothing : Obligations.SkippedAndDrainedBytesChangeNothing := by
  intro s c b rest last crcm hc hen hq hlast hcrcm t low
  have ho : Offered s c b rest := ⟨hc, hen, hq⟩
  have htake : s.takeByte c = t := by rw [State.takeByte, hq, List.tail_cons]
  refine ⟨fun hchen hst hb => ⟨?_, ?_⟩, fun hchen => ⟨?_, ?_⟩⟩
  · rw [← decodeRx_skip c last crcm hb]
    exact rowOf_decodeRx _ _ _ (by rw [toNat_rxWord]; simp [low]; omega)
  · rw [ho.exec_rxSkip hchen hst hlast hcrcm, htake]
  · exact rowOf_decodeRx (chen := false) _ _ _ (by rw [toNat_rxWord]; simp [low]; omega)
  · rw [ho.exec_rxDrain hchen hlast hcrcm, htake]

end Sys2Proof.Machine

/-!
PROOF. Turns of the frame decoder (41_frame_decoder.md R142): what one TAKE turn does on each byte, and runs of them over a
stream without the marker and over the bytes of one packet.
-/

namespace Sys2Proof.Machine

/-! ## One TAKE turn -/

section
variable {s : State} {c : Chan} {b : Byte} {rest : List Byte} {turns : List Stimulus}

/-- The end of the turn leaves the offer as it was. -/
theorem Offered.endTurn (ho : Offered s c b rest) : Offered s.endTurn c b rest := ⟨ho.lt, ho.en, ho.queue⟩

section
variable (hfault : s.modelFault = none) (hturn : s.env.stim = .take c :: turns) (hchen : (s.chan c).chEn = true)
include hfault hturn hchen

/-- An enabled channel that has the turn runs the row that its state and the offered byte select (R130). -/
theorem step_take (ho : Offered s c b rest) {st : BitVec 2} (hst : (s.chan c).st = st) (hready : st ≠ READY) :
    step s = exec (decodeRx s.cfg c true st (decide ((s.chan c).cur.toNat = s.cfg.pktLen - 1))
      (decide (b = (s.chan c).crc)) b) s.endTurn := by
  have hinstr := State.nextInstr_some (State.nextEvent_take hturn ho.lt ho.queue ho.en (.inr (hst ▸ hready)))
  rw [State.rxWordFor, decode_rxWord, beq_eq_decide, Channel.atLast, hchen, hst] at hinstr
  exact step_of_instr hfault hinstr

/-- The marker, while searching (R131). -/
theorem step_take_marker (ho : Offered s c s.cfg.marker rest) (hst : (s.chan c).st = SEARCH) :
    step s = .next (s.endTurn.receive c ((s.chan c).startPacket s.cfg) .none) := by
  rw [step_take hfault hturn hchen ho hst (by decide), decodeRx_marker]
  exact ho.endTurn.exec_rxMarker hchen hst rfl rfl

/-- Any other byte, while searching (R137). -/
theorem step_take_skip (ho : Offered s c b rest) (hst : (s.chan c).st = SEARCH) (hb : b ≠ s.cfg.marker) :
    step s = .next (s.endTurn.takeByte c) := by
  rw [step_take hfault hturn hchen ho hst (by decide), decodeRx_skip _ _ _ hb]
  exact ho.endTurn.exec_rxSkip hchen hst rfl rfl

/-- A byte inside a packet (R132). -/
theorem step_take_data (ho : Offered s c b rest) (hst : (s.chan c).st = ACCUM)
    (hcur : (s.chan c).cur.toNat < s.cfg.pktLen - 1) :
    step s = .next (s.endTurn.receive c ((s.chan c).storeByte s.cfg b) .none) := by
  rw [step_take hfault hturn hchen ho hst (by decide), decide_eq_false hcur.ne]
  exact ho.endTurn.exec_rxData hchen hst hcur rfl

/-- The checksum byte, matching (R133). -/
theorem step_take_checkOk (ho : Offered s c b rest) (hst : (s.chan c).st = ACCUM)
    (hcur : (s.chan c).cur.toNat = s.cfg.pktLen - 1) (hcrc : b = (s.chan c).crc) :
    step s = .next (s.endTurn.receive c ((s.chan c).validate s.cfg s.hw.ctrl.diagEn b) .none) := by
  rw [step_take hfault hturn hchen ho hst (by decide), decide_eq_true hcur, decide_eq_true hcrc]
  exact ho.endTurn.exec_rxCheckOk hchen hst hcur hcrc

/-- The checksum byte, not matching (R136). -/
theorem step_take_checkBad (ho : Offered s c b rest) (hst : (s.chan c).st = ACCUM)
    (hcur : (s.chan c).cur.toNat = s.cfg.pktLen - 1) (hcrc : b ≠ (s.chan c).crc) :
    step s = .next (s.endTurn.receive c ((s.chan c).discard s.hw.ctrl.diagEn) (.checksumError c)) := by
  rw [step_take hfault hturn hchen ho hst (by decide), decide_eq_true hcur, decide_eq_false hcrc]
  exact ho.endTurn.exec_rxCheckBad hchen hst hcur hcrc

end

/-- The queue behind a taken byte. -/
theorem inq_receive_of_offered (ho : Offered s c b rest) (ch : Channel) (e : ErrorEvent) :
    (s.endTurn.receive c ch e).env.inq[c] = rest := by
  rw [State.inq_receive, if_pos rfl, State.endTurn_env_inq, ho.queue, List.tail_cons]

/-- The turns behind the one that is used up. -/
theorem stim_receive_of_turn (hturn : s.env.stim = .take c :: turns) (ch : Channel) (e : ErrorEvent) :
    (s.endTurn.receive c ch e).env.stim = turns := congrArg List.tail hturn

end

/-! ## A stream without the marker -/

/-- Settles O34, by induction on the stream: each byte is skipped, which leaves the channel searching. -/
theorem noMarkerNoPacket : Obligations.NoMarkerNoPacket := by
  intro s c p rest turns hc hfault hen hchen hst hp hq hturns
  induction p generalizing s with
  | nil => exact ⟨s, rfl, rfl, hq, hturns⟩
  | cons b p ih =>
    obtain ⟨hb, hp⟩ := not_or.mp (List.mem_cons.not.mp hp)
    have ho : Offered s c b (p ++ rest) := ⟨hc, hen, hq⟩
    have hstep : step s = .next (s.endTurn.takeByte c) := step_take_skip hfault hturns hchen ho hst (Ne.symm hb)
    have hq' : (s.endTurn.takeByte c).env.inq[c] = p ++ rest := by
      rw [State.inq_takeByte, if_pos rfl, State.endTurn_env_inq, hq, List.cons_append, List.tail_cons]
    obtain ⟨t, hrun, hhw, hrest⟩ :=
      ih (s.endTurn.takeByte c) hc hfault hen hchen hst hp hq' (congrArg List.tail hturns)
    exact ⟨t, (run_succ_of_next _ hstep).trans hrun, hhw, hrest⟩

/-! ## The bytes of one packet -/

/-- Channel c of s has taken the bytes q of a packet and is offered its other bytes p, each with a turn. -/
structure Receiving (s : State) (c : Chan) (q p rest : List Byte) (turns : List Stimulus) : Prop where
  legal : s.cfg.Legal
  lt : c.val < s.cfg.nch
  noFault : s.modelFault = none
  en : s.hw.ctrl.en = true
  chEn : (s.chan c).chEn = true
  taken : Taken s c q
  length : (q ++ p).length = s.cfg.pktLen
  head : (q ++ p).head? = some s.cfg.marker
  queue : s.env.inq[c] = p ++ rest
  stim : s.env.stim = List.replicate p.length (.take c) ++ turns

/-- What the bytes of a packet before its last leave alone: the configuration, DIAG_EN, the RX counters of the channel and
the other channels. -/
structure Uncounted (s t : State) (c : Chan) : Prop where
  cfg : t.cfg = s.cfg
  diagEn : t.hw.ctrl.diagEn = s.hw.ctrl.diagEn
  cntOk : (t.chan c).cntOk = (s.chan c).cntOk
  cntCrc : (t.chan c).cntCrc = (s.chan c).cntCrc
  others : ∀ d : Chan, d ≠ c → t.chan d = s.chan d

theorem Uncounted.refl (s : State) (c : Chan) : Uncounted s s c := ⟨rfl, rfl, rfl, rfl, fun _ _ => rfl⟩

theorem Uncounted.trans {s t u : State} {c : Chan} (h : Uncounted s t c) (h' : Uncounted t u c) : Uncounted s u c :=
  ⟨h'.cfg.trans h.cfg, h'.diagEn.trans h.diagEn, h'.cntOk.trans h.cntOk, h'.cntCrc.trans h.cntCrc,
    fun d hd => (h'.others d hd).trans (h.others d hd)⟩

theorem uncounted_receive {s : State} {c : Chan} {ch : Channel} {e : ErrorEvent}
    (hok : ch.cntOk = (s.chan c).cntOk) (hbad : ch.cntCrc = (s.chan c).cntCrc) :
    Uncounted s (s.endTurn.receive c ch e) c :=
  ⟨rfl, rfl, by rw [State.chan_receive_same, hok], by rw [State.chan_receive_same, hbad],
    fun _ hd => State.chan_receive_other hd⟩

section
variable {s : State} {c : Chan} {b : Byte} {q p rest : List Byte} {turns : List Stimulus}

theorem Receiving.offered (h : Receiving s c q (b :: p) rest turns) : Offered s c b (p ++ rest) :=
  ⟨h.lt, h.en, h.queue⟩

/-- The reception goes on where the channel has taken the first of the bytes offered. -/
theorem Receiving.receive (h : Receiving s c q (b :: p) rest turns) {ch : Channel} {e : ErrorEvent}
    (hchen : ch.chEn = true) (htaken : Taken (s.endTurn.receive c ch e) c (q ++ [b])) :
    Receiving (s.endTurn.receive c ch e) c (q ++ [b]) p rest turns where
  legal := h.legal
  lt := h.lt
  noFault := h.noFault
  en := h.en
  chEn := by rw [State.chan_receive_same, hchen]
  taken := htaken
  length := by rw [List.append_assoc]; exact h.length
  head := by rw [List.append_assoc]; exact h.head
  queue := inq_receive_of_offered h.offered ch e
  stim := stim_receive_of_turn h.stim ch e

/-- The marker, taken in SEARCH, is the first byte of the packet. -/
theorem taken_startPacket (hlegal : s.cfg.Legal) (e : ErrorEvent) :
    Taken (s.endTurn.receive c ((s.chan c).startPacket s.cfg) e) c [s.cfg.marker] := by
  obtain ⟨-, -, hlen, -⟩ := hlegal
  refine .inr ?_
  rw [State.chan_receive_same]
  exact ⟨rfl, le_rfl, show 1 ≤ s.cfg.pktLen - 1 by omega, rfl, Memory.first_succ_write .., rfl⟩

/-- A byte taken in ACCUM stands behind those taken before. -/
theorem taken_storeByte (hlegal : s.cfg.Legal) (hst : (s.chan c).st = ACCUM) (hroom : q.length < s.cfg.pktLen - 1)
    (hcur : (s.chan c).cur.toNat = q.length) (hbuf : (s.chan c).buf.first q.length = q)
    (hcrc : (s.chan c).crc = crcOf s.cfg.crc q) (e : ErrorEvent) :
    Taken (s.endTurn.receive c ((s.chan c).storeByte s.cfg b) e) c (q ++ [b]) := by
  refine .inr ?_
  rw [State.chan_receive_same, List.length_append, List.length_singleton]
  refine ⟨hst, by omega, hroom, ?_, ?_, ?_⟩
  · rw [Channel.storeByte_cur_toNat b hlegal (hcur ▸ hroom), hcur]
  · show ((s.chan c).buf.write (s.chan c).cur.toNat b).first (q.length + 1) = q ++ [b]
    rw [hcur, Memory.first_succ_write, hbuf]
  · show crcStep s.cfg.crc (s.chan c).crc b = crcOf s.cfg.crc (q ++ [b])
    rw [hcrc, crcOf_snoc]

/-- One byte of a packet before its last: the marker from SEARCH, or a byte of data. -/
theorem Receiving.step (h : Receiving s c q (b :: p) rest turns) (hp : p ≠ []) :
    ∃ t, Machine.step s = .next t ∧ Receiving t c (q ++ [b]) p rest turns ∧ Uncounted s t c := by
  obtain ⟨rfl, hst⟩ | ⟨hst, -, -, hcur, hbuf, hcrc⟩ := h.taken
  · obtain rfl : b = s.cfg.marker := Option.some.inj h.head
    exact ⟨_, step_take_marker h.noFault h.stim h.chEn h.offered hst,
      h.receive h.chEn (taken_startPacket h.legal _), uncounted_receive rfl rfl⟩
  · have hroom : q.length < s.cfg.pktLen - 1 := by
      have hlen := h.length
      have := List.length_pos_iff.mpr hp
      rw [List.length_append, List.length_cons] at hlen
      omega
    exact ⟨_, step_take_data h.noFault h.stim h.chEn h.offered hst (hcur ▸ hroom),
      h.receive h.chEn (taken_storeByte h.legal hst hroom hcur hbuf hcrc _), uncounted_receive rfl rfl⟩

/-- The run over the bytes of a packet comes to the turn of its last byte, by induction on the bytes still offered. -/
theorem Receiving.run_to_last (h : Receiving s c q p rest turns) (hp : p ≠ []) :
    ∃ t q' b, Sys2Proof.core.run p.length s = Sys2Proof.core.run 1 t ∧ q ++ p = q' ++ [b]
      ∧ Receiving t c q' [b] rest turns ∧ Uncounted s t c := by
  induction p generalizing s q with
  | nil => exact absurd rfl hp
  | cons b p ih =>
    obtain rfl | hp := eq_or_ne p []
    · exact ⟨s, q, b, rfl, rfl, h, .refl s c⟩
    · obtain ⟨t, hstep, ht, hst⟩ := h.step hp
      obtain ⟨u, q', b', hrun, hbytes, hu, htu⟩ := ih ht hp
      exact ⟨u, q', b', (run_succ_of_next _ hstep).trans hrun, by rw [← hbytes, List.append_assoc]; rfl, hu,
        hst.trans htu⟩

/-- At the turn of the last byte the channel holds all the others. -/
theorem Receiving.last (h : Receiving s c q [b] rest turns) :
    q.length = s.cfg.pktLen - 1 ∧ (s.chan c).st = ACCUM ∧ (s.chan c).cur.toNat = s.cfg.pktLen - 1
    ∧ (s.chan c).buf.first (s.cfg.pktLen - 1) = q ∧ (s.chan c).crc = crcOf s.cfg.crc q := by
  have hlen : q.length = s.cfg.pktLen - 1 := by rw [← h.length, List.length_append]; rfl
  obtain ⟨rfl, -⟩ | ⟨hst, -, -, hcur, hbuf, hcrc⟩ := h.taken
  · obtain ⟨-, -, hmin, -⟩ := h.legal
    rw [List.length_nil] at hlen
    omega
  · exact ⟨hlen, hst, hlen ▸ hcur, hlen ▸ hbuf, hcrc⟩

/-- Some byte of a packet is still to come, since fewer than PKT_LEN are taken. -/
theorem Receiving.ne_nil (h : Receiving s c q p rest turns) : p ≠ [] := by
  rintro rfl
  obtain ⟨-, -, hmin, -⟩ := h.legal
  have hlen := h.length
  rw [List.append_nil] at hlen
  obtain ⟨rfl, -⟩ | ⟨-, -, hle, -⟩ := h.taken
  · rw [List.length_nil] at hlen; omega
  · omega

/-- The last byte of the packet is the checksum byte, and the running CRC is that of the bytes before it. -/
theorem Receiving.getLast_eq_crc_iff (h : Receiving s c q [b] rest turns) :
    (q ++ [b]).getLast? = some (crcOf s.cfg.crc ((q ++ [b]).take (s.cfg.pktLen - 1))) ↔ b = (s.chan c).crc := by
  obtain ⟨hlen, -, -, -, hcrc⟩ := h.last
  rw [List.getLast?_concat, List.take_left' hlen, hcrc, Option.some.injEq]

end

/-- Settles O32: the run comes to the last byte, which RX_CHECK_OK stores behind the others. -/
theorem validPacketReachesReady : Obligations.ValidPacketReachesReady := by
  intro s c q p rest turns hlegal hc hfault hen hchen htaken hlen hhead hlast hq hturns
  have hs : Receiving s c q p rest turns := ⟨hlegal, hc, hfault, hen, hchen, htaken, hlen, hhead, hq, hturns⟩
  obtain ⟨t, q', b, hrun, hbytes, ht, hkept⟩ := hs.run_to_last hs.ne_nil
  rw [hbytes, ← hkept.cfg] at hlast
  obtain ⟨-, hst, hcur, hbuf, -⟩ := ht.last
  have hcrc : b = (t.chan c).crc := ht.getLast_eq_crc_iff.mp hlast
  have hstep := step_take_checkOk ht.noFault ht.stim ht.chEn ht.offered hst hcur hcrc
  refine ⟨_, hrun.trans (run_succ_of_next 0 hstep), ?_⟩
  rw [State.chan_receive_same, hbytes, ← hkept.cfg]
  refine ⟨rfl, Channel.validate_cur_toNat _ _ b ht.legal, ?_, inq_receive_of_offered ht.offered _ _,
    stim_receive_of_turn ht.stim _ _, ?_, fun d hd => (State.chan_receive_other hd).trans (hkept.others d hd)⟩
  · have hpos : t.cfg.pktLen = t.cfg.pktLen - 1 + 1 := by
      obtain ⟨-, -, hmin, -⟩ := ht.legal
      omega
    show ((t.chan c).buf.write (t.cfg.pktLen - 1) b).first t.cfg.pktLen = q' ++ [b]
    rw [hpos, Nat.add_sub_cancel, Memory.first_succ_write, hbuf]
  · rw [← hkept.diagEn, ← hkept.cntOk]
    exact countUp_counted ..

/-- Settles O33: the run comes to the last byte, on which RX_CHECK_BAD returns the channel to SEARCH. -/
theorem corruptedPacketIsDiscarded : Obligations.CorruptedPacketIsDiscarded := by
  intro s c q p rest turns hlegal hc hfault hen hchen htaken hlen hhead hlast hq hturns
  have hs : Receiving s c q p rest turns := ⟨hlegal, hc, hfault, hen, hchen, htaken, hlen, hhead, hq, hturns⟩
  obtain ⟨t, q', b, hrun, hbytes, ht, hkept⟩ := hs.run_to_last hs.ne_nil
  rw [hbytes, ← hkept.cfg] at hlast
  obtain ⟨-, hst, hcur, -, -⟩ := ht.last
  have hcrc : b ≠ (t.chan c).crc := fun hcrc => hlast (ht.getLast_eq_crc_iff.mpr hcrc)
  have hstep := step_take_checkBad ht.noFault ht.stim ht.chEn ht.offered hst hcur hcrc
  refine ⟨_, hrun.trans (run_succ_of_next 0 hstep), ?_⟩
  rw [State.chan_receive_same]
  refine ⟨rfl, rfl, rfl, rfl, inq_receive_of_offered ht.offered _ _, stim_receive_of_turn ht.stim _ _, rfl,
    hkept.cntOk, ?_, fun d hd => (State.chan_receive_other hd).trans (hkept.others d hd)⟩
  rw [← hkept.diagEn, ← hkept.cntCrc]
  exact countUp_counted ..

end Sys2Proof.Machine

/-!
PROOF. When an agent has no step (00_scope.md R9, 41_frame_decoder.md R130, R135, 44_scheduler.md R190, R196, R200, R201,
R205): its event is formed exactly where its step exists.
-/

namespace Sys2Proof.Machine

section
variable {s : State} {rest : List Stimulus}

theorem State.nextEvent_take_eq_none_iff {c : Chan} (hturn : s.env.stim = .take c :: rest) :
    s.nextEvent = none ↔ ¬s.rxExists c = true := by
  constructor
  · intro hnone hexists
    obtain ⟨hc, hen, hq, hready⟩ := (s.rxExists_iff c).mp hexists
    obtain ⟨b, bytes, hq⟩ := List.exists_cons_of_ne_nil hq
    cases hnone.symm.trans (State.nextEvent_take hturn hc hq hen hready)
  · intro hexists
    simp only [State.nextEvent, hturn, if_neg hexists]

theorem State.nextEvent_visit_eq_none_iff (hturn : s.env.stim = .visit :: rest) :
    s.nextEvent = none ↔ ¬s.visitExists = true := by
  simp [State.nextEvent, hturn]

theorem State.nextEvent_xf_eq_none_iff (hturn : s.env.stim = .xf :: rest) :
    s.nextEvent = none ↔ ¬s.xfExists = true := by
  simp [State.nextEvent, hturn]

theorem State.nextEvent_pop_eq_none_iff (hturn : s.env.stim = .pop :: rest) :
    s.nextEvent = none ↔ s.hw.outq = [] := by
  simp [State.nextEvent, hturn]

/-- The transform unit waits while idle, and with an accepted sample while OUTQ is full (R200, R201). -/
theorem State.not_xfExists_iff (s : State) :
    ¬s.xfExists = true ↔
      s.hw.xf.busy = false ∨ (Accepted s.hw.xf s.hw.xf.k ∧ s.cfg.outDepth ≤ s.hw.outq.length) := by
  rw [← s.hw.xf.acc_iff]
  cases hbusy : s.hw.xf.busy <;> simp [State.xfExists, hbusy]

end

/-- Settles O7, agent by agent. -/
theorem agentsWithoutAStep : Obligations.AgentsWithoutAStep := by
  intro s rest
  refine ⟨fun c hturn => ?take, fun hturn => ?visit, fun hturn => ?xf, State.nextEvent_pop_eq_none_iff⟩
  case take =>
    rw [State.nextEvent_take_eq_none_iff hturn, State.rxExists_iff]
    simp only [not_and_or, not_or, not_lt, Bool.not_eq_true, Bool.not_eq_false, not_ne_iff]
  case visit =>
    rw [State.nextEvent_visit_eq_none_iff hturn]
    simp only [State.visitExists, Bool.and_eq_true, Bool.not_eq_true', not_and_or, Bool.not_eq_true, Bool.not_eq_false]
  case xf => rw [State.nextEvent_xf_eq_none_iff hturn, State.not_xfExists_iff]

end Sys2Proof.Machine

/-!
PROOF. The angle interpolator (42_geometry.md R154 to R159): the end angle, the exact interpolation, and the one rounding of
the angle to a BAM16 unit.
-/

namespace Sys2Proof.Machine

/-! ## The interpolation -/

theorem endAdj_eq (xs xe : Half) (wrap : Bool) :
    endAdj xs xe wrap = if wrap = true ∧ xe.toNat < xs.toNat then xe.toNat + 36000 else xe.toNat := by
  simp [endAdj, BitVec.lt_def]

theorem endAdj_le (xs xe : Half) (wrap : Bool) : endAdj xs xe wrap ≤ 101535 := by
  have hs := xs.isLt
  have he := xe.isLt
  rw [endAdj_eq]
  split <;> omega

/-- The weighted mean of two angles is linear in the sample index (R156). -/
theorem interp_cast (k : SampleIx) (xs : Half) (e : Nat) :
    (interp k xs e : ℤ) = 11 * xs.toNat + k.val * ((e : ℤ) - xs.toNat) := by
  have hk : k.val ≤ 11 := Nat.le_of_lt_succ k.isLt
  rw [interp]
  push_cast [hk]
  ring

/-- A weighted mean with weights of sum 11 stays below 11 times a bound of both ends. -/
theorem interp_le (k : SampleIx) {xs : Half} {e bound : Nat} (hs : xs.toNat ≤ bound) (he : e ≤ bound) :
    interp k xs e ≤ 11 * bound := by
  have hk : 11 - k.val + k.val = 11 := Nat.sub_add_cancel (Nat.le_of_lt_succ k.isLt)
  calc interp k xs e
    _ ≤ (11 - k.val) * bound + k.val * bound := Nat.add_le_add (Nat.mul_le_mul_left _ hs) (Nat.mul_le_mul_left _ he)
    _ = 11 * bound := by rw [← Nat.add_mul, hk]

/-- Settles O54: the bounds are those of a weighted mean of the two end angles. -/
theorem interpolationIsExact : Obligations.InterpolationIsExact := by
  intro k xs xe off wrap e
  have he : e ≤ 101535 := endAdj_le xs xe wrap
  have hs : xs.toNat < 2 ^ 16 := xs.isLt
  have hoff : off.toNat < 2 ^ 16 := off.isLt
  have hinterp : interp k xs e ≤ 11 * 101535 := interp_le k (by omega) he
  have htotal : offsetAngle (interp k xs e) off = interp k xs e + 11 * off.toNat := rfl
  exact ⟨endAdj_eq xs xe wrap, he, rfl, interp_cast k xs e, by simp [interp], by simp [interp], hinterp, htotal, by omega⟩

/-! ## The rounding to a BAM16 unit -/

theorem phase_toNat (tot : Nat) : (phase tot).toNat = (4096 * tot + 12375) / 24750 % 65536 := by
  rw [phase, BitVec.toNat_ofNat]

/-- The phase is off by at most half a unit, up to whole turns; one unit is 396000 / 65536 elevenths of a centidegree
(R158). -/
theorem phase_nearest (tot : Nat) : ∃ turns : Nat,
    2 * 396000 * ((phase tot).toNat + 65536 * turns) ≤ 2 * 65536 * tot + 396000
    ∧ 2 * 65536 * tot < 2 * 396000 * ((phase tot).toNat + 65536 * turns) + 396000 := by
  refine ⟨(4096 * tot + 12375) / 24750 / 65536, ?_⟩
  rw [phase_toNat, Nat.mod_add_div]
  omega

/-- Settles O53: 24750 divides 4096 * 396000, so a whole turn adds a whole number of units. -/
theorem phaseRoundsToNearestUnit : Obligations.PhaseRoundsToNearestUnit := by
  refine ⟨fun tot => ⟨?formulas, ?turn, phase_nearest tot⟩, by decide, by decide⟩
  case formulas =>
    have hquotient : (tot * 65536 + 198000) / 396000 = (4096 * tot + 12375) / 24750 := by omega
    rw [phase_toNat, hquotient]
  case turn =>
    have hquotient : (4096 * (tot + 11 * 36000) + 12375) / 24750 = (4096 * tot + 12375) / 24750 + 65536 := by omega
    apply BitVec.eq_of_toNat_eq
    rw [phase_toNat, phase_toNat, hquotient, Nat.add_mod_right]

theorem rotate_toNat (p : Half) : (rotate p).toNat = (p.toNat + 49152) % 65536 := by
  rw [rotate, BitVec.toNat_sub, Nat.add_comm]
  rfl

end Sys2Proof.Machine

/-!
PROOF. The sine and cosine of a BAM16 angle and the point record (42_geometry.md R160 to R172): the operations of the
transform against the plain-arithmetic reading of Sys2Proof/Safety.lean, and the ranges of the coordinates.
-/

namespace Sys2Proof.Machine

/-! ## Sine and cosine -/

/-- TRIG reads the sine and the cosine of its angle's number, quadrant by quadrant (R160). -/
theorem trig_eq (rom : Nat → Nat) (p : Half) :
    trig rom p = { cos := cosFrom rom p.toNat, sin := sinFrom rom p.toNat } := by
  have hp : p.toNat < 65536 := p.isLt
  have hj : (p.extractLsb' 0 14).toNat = p.toNat % 16384 := by rw [toNat_extractLsb']; omega
  have hq : (p.extractLsb' 14 2).toNat = p.toNat / 16384 := by rw [toNat_extractLsb']; omega
  generalize p.toNat = n at *
  obtain h | h | h | h : n / 16384 = 0 ∨ n / 16384 = 1 ∨ n / 16384 = 2 ∨ n / 16384 = 3 := by omega
  all_goals
    simp only [trig, hj, hq, h, cosFrom, sinFrom, SinCos.mk.injEq]
    grind

section
variable {rom : Nat → Nat} (hrom : ∀ j, j ≤ 16384 → rom j ≤ 16384)
include hrom

theorem cosFrom_range {p : Nat} (hp : p < 65536) : |cosFrom rom p| ≤ 16384 := by
  unfold cosFrom
  split_ifs <;> simp only [abs_neg, Nat.abs_cast] <;> exact_mod_cast hrom _ (by omega)

theorem sinFrom_range {p : Nat} (hp : p < 65536) : |sinFrom rom p| ≤ 16384 := by
  unfold sinFrom
  split_ifs <;> simp only [abs_neg, Nat.abs_cast] <;> exact_mod_cast hrom _ (by omega)

end

/-- Settles O55: the quarter turns are the ends of the four quadrants, and a non-decreasing ROM is bounded by its last
entry. -/
theorem trigQuarterTurnsAndRange : Obligations.TrigQuarterTurnsAndRange := by
  intro rom h0 h1
  refine ⟨?_, ?_, ?_, ?_, fun hmono p => ?range⟩
  case range =>
    have hrom : ∀ j, j ≤ 16384 → rom j ≤ 16384 := fun j hj => h1 ▸ hmono j 16384 hj le_rfl
    rw [trig_eq, ← and_assoc]
    exact ⟨abs_le.mp (cosFrom_range hrom p.isLt), abs_le.mp (sinFrom_range hrom p.isLt)⟩
  all_goals simp [trig_eq, cosFrom, sinFrom, h0, h1]

/-! ## The coordinates -/

theorem posAdd_eq (enabled : Bool) (v : Int) (offset : Half) :
    posAdd enabled v offset = v + if enabled then offset.toInt else 0 := by
  cases enabled <;> simp [posAdd]

theorem toNat_phase_totalAngle (x : Xform) (k : SampleIx) : (phase (x.totalAngle k)).toNat = angleOf x k.val := by
  rw [phase_toNat, Xform.totalAngle, endAdj_eq]
  rfl

theorem toNat_rotate_phase (x : Xform) (k : SampleIx) :
    (rotate (phase (x.totalAngle k))).toNat = adjustedOf x k.val := by
  rw [rotate_toNat, toNat_phase_totalAngle]
  rfl

/-- POINT records the coordinates that the plain-arithmetic reading gives (R172). -/
theorem point_eq (rom : Nat → Nat) (x : Xform) (k : SampleIx) :
    x.point rom k = x.record k (phase (x.totalAngle k)) (xOf rom x k) (yOf rom x k) := by
  simp only [Xform.point, trig_eq, toNat_rotate_phase, posAdd_eq, cartX, cartY, roundQ14, xOf, yOf]

/-- A Q2.14 factor of magnitude at most 1 leaves a rounded product within the distance (R165). -/
theorem roundQ14_range {c : Int} (hc : |c| ≤ 16384) (d : Half) :
    -65535 ≤ roundQ14 (c * d.toNat) ∧ roundQ14 (c * d.toNat) ≤ 65535 := by
  have hd : |(d.toNat : Int)| ≤ 65535 := by
    rw [Nat.abs_cast]
    exact_mod_cast Nat.le_of_lt_succ d.isLt
  have hproduct : |c * d.toNat| ≤ 16384 * 65535 := by
    rw [abs_mul]
    exact mul_le_mul hc hd (abs_nonneg _) (by decide)
  obtain ⟨hlo, hhi⟩ := abs_le.mp hproduct
  rw [roundQ14]
  omega

theorem offset_range (offset : Half) : -32768 ≤ offset.toInt ∧ offset.toInt ≤ 32767 :=
  ⟨BitVec.le_toInt offset, Int.le_of_lt_add_one BitVec.toInt_lt⟩

theorem xOf_eq (rom : Nat → Nat) (x : Xform) (k : SampleIx) :
    xOf rom x k =
      roundQ14 (-cosFrom rom (adjustedOf x k.val) * x.dist[k].toNat) + if x.posEn then x.px.toInt else 0 := by
  rw [neg_mul]
  rfl

theorem yOf_eq (rom : Nat → Nat) (x : Xform) (k : SampleIx) :
    yOf rom x k =
      roundQ14 (sinFrom rom (adjustedOf x k.val) * x.dist[k].toNat) + if x.posEn then x.py.toInt else 0 := rfl

/-- A rounded product within the distance, with the position offset where it is enabled, stays in the range of R168, and in
that of R165 where it is not. -/
theorem coordinate_range {c : Int} (hc : |c| ≤ 16384) (d offset : Half) (enabled : Bool) {v : Int}
    (hv : v = roundQ14 (c * d.toNat) + if enabled then offset.toInt else 0) :
    -98303 ≤ v ∧ v ≤ 98302 ∧ (enabled = false → -65535 ≤ v ∧ v ≤ 65535) := by
  have hround := roundQ14_range hc d
  have hoff := offset_range offset
  subst hv
  cases enabled
  · simp only [Bool.false_eq_true, if_false]; omega
  · simp only [if_true]; exact ⟨by omega, by omega, nofun⟩

/-- A coordinate in its range is what its 32-bit word reads as (R168). -/
theorem toInt_ofInt_of_range {v : Int} (hlo : -98303 ≤ v) (hhi : v ≤ 98302) : (BitVec.ofInt 32 v).toInt = v :=
  BitVec.toInt_ofInt_eq_self (by decide) (by omega) (by omega)

theorem adjustedOf_lt (x : Xform) (k : Nat) : adjustedOf x k < 65536 := Nat.mod_lt _ (by decide)

section
variable {rom : Nat → Nat} (hrom : ∀ j, j ≤ 16384 → rom j ≤ 16384) (x : Xform) (k : SampleIx)
include hrom

theorem xOf_range :
    -98303 ≤ xOf rom x k ∧ xOf rom x k ≤ 98302 ∧ (x.posEn = false → -65535 ≤ xOf rom x k ∧ xOf rom x k ≤ 65535) := by
  have hcos : |-cosFrom rom (adjustedOf x k.val)| ≤ 16384 := by
    rw [abs_neg]
    exact cosFrom_range hrom (adjustedOf_lt x k.val)
  exact coordinate_range hcos x.dist[k] x.px x.posEn (xOf_eq rom x k)

theorem yOf_range :
    -98303 ≤ yOf rom x k ∧ yOf rom x k ≤ 98302 ∧ (x.posEn = false → -65535 ≤ yOf rom x k ∧ yOf rom x k ≤ 65535) :=
  coordinate_range (sinFrom_range hrom (adjustedOf_lt x k.val)) x.dist[k] x.py x.posEn (yOf_eq rom x k)

/-! ## The words of the record -/

theorem point_w2_toInt : (x.point rom k).w2.toInt = xOf rom x k := by
  obtain ⟨hlo, hhi, -⟩ := xOf_range hrom x k
  rw [point_eq]
  exact toInt_ofInt_of_range hlo hhi

theorem point_w3_toInt : (x.point rom k).w3.toInt = yOf rom x k := by
  obtain ⟨hlo, hhi, -⟩ := yOf_range hrom x k
  rw [point_eq]
  exact toInt_ofInt_of_range hlo hhi

end

theorem point_w0_toNat (rom : Nat → Nat) (x : Xform) (k : SampleIx) :
    (x.point rom k).w0.toNat = x.dist[k].toNat * 2 ^ 16 + x.inten[k].toNat * 2 ^ 8 + x.dev.toNat := by
  have hw0 : (x.point rom k).w0 = x.dist[k] ++ x.inten[k] ++ x.dev := rfl
  rw [hw0, toNat_append_eq_add, toNat_append_eq_add]
  ring

theorem point_w1_toNat (rom : Nat → Nat) (x : Xform) (k : SampleIx) :
    (x.point rom k).w1.toNat = x.ch.val * 2 ^ 20 + k.val * 2 ^ 16 + angleOf x k.val := by
  have hw1 : (x.point rom k).w1 = 0#9 ++ BitVec.ofNat 3 x.ch.val ++ BitVec.ofNat 4 k.val ++ phase (x.totalAngle k) := rfl
  have hch : x.ch.val % 2 ^ 3 = x.ch.val := Nat.mod_eq_of_lt x.ch.isLt
  have hk : k.val % 2 ^ 4 = k.val := Nat.mod_eq_of_lt (k.isLt.trans (by decide))
  rw [hw1, toNat_append_eq_add, toNat_append_eq_add, toNat_append_eq_add, toNat_phase_totalAngle, BitVec.toNat_ofNat,
    BitVec.toNat_ofNat, BitVec.toNat_ofNat, hch, hk]
  ring

/-- Settles O51, word by word. -/
theorem pointMatchesComposedFunction : Obligations.PointMatchesComposedFunction :=
  fun rom x k hrom =>
    ⟨point_w0_toNat rom x k, point_w1_toNat rom x k, point_w2_toInt hrom x k, point_w3_toInt hrom x k⟩

/-- Settles O52: the words read as X and Y, whose ranges are `xOf_range` and `yOf_range`. -/
theorem coordinatesStayInRange : Obligations.CoordinatesStayInRange := by
  intro rom x k hrom
  obtain ⟨hxlo, hxhi, hx⟩ := xOf_range hrom x k
  obtain ⟨hylo, hyhi, hy⟩ := yOf_range hrom x k
  rw [point_w2_toInt hrom, point_w3_toInt hrom]
  exact ⟨hxlo, hxhi, hylo, hyhi, fun hpos => and_assoc.mp ⟨hx hpos, hy hpos⟩⟩

end Sys2Proof.Machine

/-!
PROOF. The error of a point against the source's real-valued transform (42_geometry.md R170): half a unit of the phase, half
a unit of the ROM's last place and half a millimetre of the final rounding add up.
-/

namespace Sys2Proof.Machine

/-- A BAM16 angle in radians (00_scope.md R15). -/
noncomputable def bamRadians (p : ℝ) : ℝ := 2 * Real.pi * p / 65536

/-! ## The ROM: half a unit of the sine and the cosine -/

theorem sin_bamRadians_half_turn_sub (p : ℝ) : Real.sin (bamRadians (32768 - p)) = Real.sin (bamRadians p) := by
  rw [← Real.sin_pi_sub]
  congr 1
  unfold bamRadians
  ring

theorem sin_bamRadians_sub_half_turn (p : ℝ) : Real.sin (bamRadians (p - 32768)) = -Real.sin (bamRadians p) := by
  rw [← Real.sin_sub_pi]
  congr 1
  unfold bamRadians
  ring

theorem cos_bamRadians (p : ℝ) : Real.cos (bamRadians p) = Real.sin (bamRadians (p + 16384)) := by
  rw [← Real.sin_add_pi_div_two]
  congr 1
  unfold bamRadians
  ring

theorem bamRadians_add_turns (p : ℝ) (turns : ℤ) :
    bamRadians (p + 65536 * turns) = bamRadians p + turns * (2 * Real.pi) := by
  unfold bamRadians
  ring

/-- Quadrant by quadrant, the value SIN reads from an accurate ROM is within 1/2 of 16384 times the sine (R161). -/
theorem sinFrom_accurate {rom : Nat → Nat} (hrom : RomAccurate rom) {p : Nat} (hp : p < 65536) :
    |(sinFrom rom p : ℝ) - 16384 * Real.sin (bamRadians p)| ≤ 1 / 2 := by
  have hentry (j : Nat) (hj : j ≤ 16384) : |(rom j : ℝ) - 16384 * Real.sin (bamRadians j)| ≤ 1 / 2 := hrom j hj
  unfold sinFrom
  split_ifs with h1 h2 h3
  · exact hentry p h1.le
  · have h := hentry (32768 - p) (by omega)
    rwa [Nat.cast_sub h2.le, Nat.cast_ofNat, sin_bamRadians_half_turn_sub] at h
  · have h := hentry (p - 32768) (by omega)
    rw [Nat.cast_sub (not_lt.mp h2), Nat.cast_ofNat, sin_bamRadians_sub_half_turn] at h
    rw [← abs_neg]
    push_cast
    convert h using 2
    ring
  · have h := hentry (65536 - p) (by omega)
    have hangle : (65536 : ℝ) - p = 32768 - (p - 32768) := by ring
    rw [Nat.cast_sub hp.le, Nat.cast_ofNat, hangle, sin_bamRadians_half_turn_sub, sin_bamRadians_sub_half_turn] at h
    rw [← abs_neg]
    push_cast
    convert h using 2
    ring

/-- The cosine is the sine a quarter turn on, in the ROM as in the reals. -/
theorem cosFrom_eq_sinFrom (rom : Nat → Nat) {p : Nat} (hp : p < 65536) :
    cosFrom rom p = sinFrom rom ((p + 16384) % 65536) := by
  have hsum : (p + 16384) % 65536 = if p < 49152 then p + 16384 else p - 49152 := by split_ifs <;> omega
  rw [hsum]
  unfold cosFrom sinFrom
  split_ifs <;> grind

theorem cosFrom_accurate {rom : Nat → Nat} (hrom : RomAccurate rom) {p : Nat} (hp : p < 65536) :
    |(cosFrom rom p : ℝ) - 16384 * Real.cos (bamRadians p)| ≤ 1 / 2 := by
  have hsin := sinFrom_accurate hrom (Nat.mod_lt (p + 16384) (by decide : 65536 > 0))
  have hangle : (p : ℝ) + 16384 = ((p + 16384) % 65536 : ℕ) + 65536 * ((p + 16384) / 65536 : ℕ) := by
    exact_mod_cast (Nat.mod_add_div (p + 16384) 65536).symm
  rw [cosFrom_eq_sinFrom rom hp, cos_bamRadians, hangle, ← Int.cast_natCast (R := ℝ) ((p + 16384) / 65536),
    bamRadians_add_turns, Real.sin_add_int_mul_two_pi]
  exact hsin

/-! ## The phase: half a unit of the angle -/

/-- The adjusted angle of R151 in radians, of a total of `tot` elevenths of a centidegree. -/
noncomputable def adjustedRadians (tot : Nat) : ℝ := ((tot : ℝ) / 1100 - 90) * (Real.pi / 180)

/-- In BAM16 units, the rotated phase is the adjusted angle to half a unit, up to whole turns (R158, R159). -/
theorem rotate_phase_nearest (tot : Nat) : ∃ turns : ℤ,
    |((rotate (phase tot)).toNat + 65536 * turns : ℝ) - (65536 * tot / 396000 - 16384)| ≤ 1 / 2 := by
  obtain ⟨turns, hlo, hhi⟩ := phase_nearest tot
  have hrotate : (rotate (phase tot)).toNat + 65536 * (((phase tot).toNat + 49152) / 65536) = (phase tot).toNat + 49152 := by
    rw [rotate_toNat, Nat.mod_add_div]
  generalize ((phase tot).toNat + 49152) / 65536 = wrapped at hrotate
  refine ⟨turns + wrapped - 1, ?_⟩
  rify at hlo hhi hrotate
  push_cast
  rw [abs_le]
  constructor <;> linarith

/-- Half a BAM16 unit is at most 4.80e-5 radians. -/
theorem rotate_phase_radians (tot : Nat) : ∃ turns : ℤ,
    |bamRadians (rotate (phase tot)).toNat + turns * (2 * Real.pi) - adjustedRadians tot| ≤ 4.80e-5 := by
  obtain ⟨turns, hnearest⟩ := rotate_phase_nearest tot
  refine ⟨turns, ?_⟩
  rw [← bamRadians_add_turns]
  set units : ℝ := (rotate (phase tot)).toNat + 65536 * turns
  have hpi := Real.pi_lt_d4
  calc |bamRadians units - adjustedRadians tot|
    _ = 2 * Real.pi / 65536 * |units - (65536 * tot / 396000 - 16384)| := by
      rw [← abs_of_pos (by positivity : 0 < 2 * Real.pi / 65536), ← abs_mul]
      congr 1
      unfold bamRadians adjustedRadians
      ring
    _ ≤ 2 * 3.1416 / 65536 * (1 / 2) := by gcongr
    _ ≤ 4.80e-5 := by norm_num

theorem sin_rotate_phase_accurate (tot : Nat) :
    |Real.sin (bamRadians (rotate (phase tot)).toNat) - Real.sin (adjustedRadians tot)| ≤ 4.80e-5 := by
  obtain ⟨turns, h⟩ := rotate_phase_radians tot
  rw [← Real.sin_add_int_mul_two_pi _ turns]
  exact (Real.abs_sin_sub_sin_le ..).trans h

theorem cos_rotate_phase_accurate (tot : Nat) :
    |Real.cos (bamRadians (rotate (phase tot)).toNat) - Real.cos (adjustedRadians tot)| ≤ 4.80e-5 := by
  obtain ⟨turns, h⟩ := rotate_phase_radians tot
  rw [← Real.cos_add_int_mul_two_pi _ turns]
  exact (Real.abs_cos_sub_cos_le ..).trans h

/-! ## The products: half a millimetre -/

/-- Rounding is within half a unit (R165). -/
theorem roundQ14_accurate (z : Int) : |(roundQ14 z : ℝ) - z / 16384| ≤ 1 / 2 := by
  have hlo : 16384 * roundQ14 z ≤ z + 8192 := by rw [roundQ14]; omega
  have hhi : z + 8192 ≤ 16384 * roundQ14 z + 16384 := by rw [roundQ14]; omega
  rify at hlo hhi
  rw [abs_le]
  constructor <;> linarith

/-- The three errors add up: a factor c read from the ROM for the value v', which the phase puts in place of v (R170). -/
theorem roundQ14_mul_accurate {c : Int} {v v' : ℝ} (hrom : |(c : ℝ) - 16384 * v'| ≤ 1 / 2) (hphase : |v' - v| ≤ 4.80e-5)
    (d : Nat) : |(roundQ14 (c * d) : ℝ) - v * d| ≤ d * (4.80e-5 + 3.06e-5) + 0.5 := by
  have hround := roundQ14_accurate (c * d)
  have hfactor : |(c : ℝ) / 16384 - v| ≤ 4.80e-5 + 3.06e-5 := by
    rw [abs_le] at *
    constructor <;> linarith
  calc |(roundQ14 (c * d) : ℝ) - v * d|
    _ = |((roundQ14 (c * d) : ℝ) - (c * d : ℤ) / 16384) + d * (c / 16384 - v)| := by
      congr 1
      push_cast
      ring
    _ ≤ 1 / 2 + d * (4.80e-5 + 3.06e-5) := by
      refine (abs_add_le _ _).trans (add_le_add hround ?_)
      rw [abs_mul, Nat.abs_cast]
      gcongr
    _ = d * (4.80e-5 + 3.06e-5) + 0.5 := by ring

/-- The total of a sample is 1100 times the shared-frame angle of R151 in degrees. -/
theorem totalAngle_cast (x : Xform) (k : SampleIx) :
    (x.totalAngle k : ℝ) / 1100 =
      ((x.startAng.toNat : ℝ) + k.val * ((endAngleCd x : ℝ) - x.startAng.toNat) / 11 + x.off.toNat) / 100 := by
  have hinterp : (interp k x.startAng (endAngleCd x) : ℝ) =
      11 * x.startAng.toNat + k.val * ((endAngleCd x : ℝ) - x.startAng.toNat) := by
    exact_mod_cast interp_cast k x.startAng (endAngleCd x)
  have htotal : x.totalAngle k = interp k x.startAng (endAngleCd x) + 11 * x.off.toNat := by
    rw [Xform.totalAngle, endAdj_eq]
    rfl
  rw [htotal]
  push_cast
  rw [hinterp]
  ring

/-- Settles O56: the record's words read as X and Y, each a rounded product of a ROM value at the rotated phase. -/
theorem pointsAreAccurate : Obligations.PointsAreAccurate := by
  intro rom x k haccurate hrange hpos d theta alpha
  have halpha : adjustedRadians (x.totalAngle k) = alpha := by rw [adjustedRadians, totalAngle_cast]
  have hadj := adjustedOf_lt x k.val
  have hcos := cos_rotate_phase_accurate (x.totalAngle k)
  have hsin := sin_rotate_phase_accurate (x.totalAngle k)
  rw [toNat_rotate_phase, halpha] at hcos hsin
  have hnegcos : |((-cosFrom rom (adjustedOf x k.val) : ℤ) : ℝ) - 16384 * -Real.cos (bamRadians (adjustedOf x k.val))| ≤ 1 / 2 := by
    rw [← abs_neg]
    push_cast
    convert cosFrom_accurate haccurate hadj using 2
    ring
  rw [point_w2_toInt hrange, point_w3_toInt hrange, xOf_eq, yOf_eq, hpos, if_neg (by decide), if_neg (by decide), add_zero,
    add_zero]
  exact ⟨roundQ14_mul_accurate hnegcos (by rwa [neg_sub_neg, abs_sub_comm]) _,
    roundQ14_mul_accurate (sinFrom_accurate haccurate hadj) hsin _⟩

end Sys2Proof.Machine

/-!
PROOF. The default sine ROM (42_geometry.md R163, R164). A Taylor polynomial stands in for the sine, with an error bound
proved once for all entries; its values at the starts of the ROM's rows and at the columns of a row are exact fractions of
natural numbers, and the addition theorem of the sine gives from them a fraction for each entry, which the entry is compared
with. That the entries are non-decreasing and in range follows from the sine.
-/

namespace Sys2Proof.Machine

/-! ## The Taylor polynomial of the sine -/

/-- The first n terms of the sine's Taylor series. -/
noncomputable def sinTaylor (n : Nat) (y : ℝ) : ℝ := ∑ i ∈ Finset.range n, (-1) ^ i * y ^ (2 * i + 1) / (2 * i + 1).factorial

/-- The odd terms of the exponential series at y * I are I times those of the sine's. -/
theorem im_sum_exp_eq_sinTaylor (n : Nat) (y : ℝ) :
    (∑ m ∈ Finset.range (2 * n), (y * Complex.I : ℂ) ^ m / m.factorial).im = sinTaylor n y := by
  induction n with
  | zero => simp [sinTaylor]
  | succ n ih =>
    have heven : ((y * Complex.I : ℂ) ^ (2 * n) / (2 * n).factorial) = ((-1) ^ n * y ^ (2 * n) / (2 * n).factorial : ℝ) := by
      push_cast
      rw [mul_pow, pow_mul Complex.I, Complex.I_sq]
      ring
    have hodd : ((y * Complex.I : ℂ) ^ (2 * n + 1) / (2 * n + 1).factorial)
        = ((-1) ^ n * y ^ (2 * n + 1) / (2 * n + 1).factorial : ℝ) * Complex.I := by
      push_cast
      rw [mul_pow, pow_succ Complex.I, pow_mul Complex.I, Complex.I_sq]
      ring
    rw [Nat.mul_succ, Finset.sum_range_succ, Finset.sum_range_succ, Complex.add_im, Complex.add_im, ih, heven, hodd,
      Complex.ofReal_im, Complex.im_ofReal_mul, Complex.I_im, add_zero, mul_one]
    exact (Finset.sum_range_succ ..).symm

theorem abs_sin_sub_sinTaylor_le {n : Nat} {y : ℝ} (hy : |y| / (2 * n + 1) ≤ 1 / 2) :
    |Real.sin y - sinTaylor n y| ≤ |y| ^ (2 * n) / (2 * n).factorial * 2 := by
  have hnorm : ‖(y * Complex.I : ℂ)‖ = |y| := by simp
  have hexp := Complex.exp_bound' (x := y * Complex.I) (n := 2 * n) (by rw [hnorm]; exact_mod_cast hy)
  rw [hnorm] at hexp
  calc |Real.sin y - sinTaylor n y|
    _ = |(Complex.exp (y * Complex.I) - ∑ m ∈ Finset.range (2 * n), (y * Complex.I : ℂ) ^ m / m.factorial).im| := by
      rw [Complex.sub_im, im_sum_exp_eq_sinTaylor, Complex.exp_ofReal_mul_I_im]
    _ ≤ _ := (Complex.abs_im_le_norm _).trans hexp

/-! ## The polynomial's value as a fraction

The terms from y^k / k! on, over y^k / k!, at y = u / q: `hornerDen` is the denominator and `hornerNum` the numerator. -/

/-- The terms' factors are 1 / ((k + 1) * (k + 2)), each with the square of 1 / q. -/
def hornerDen (q : Nat) : Nat → Nat → Nat
  | 0, _ => 1
  | n + 1, k => q * q * ((k + 1) * (k + 2)) * hornerDen q n (k + 2)

/-- Horner's scheme on natural numbers. -/
def hornerNum (u q : Nat) : Nat → Nat → Nat
  | 0, _ => 0
  | n + 1, k => hornerDen q (n + 1) k - u * u * hornerNum u q n (k + 2)

theorem hornerDen_pos {q : Nat} (hq : 0 < q) (n k : Nat) : 0 < hornerDen q n k := by
  induction n generalizing k with
  | zero => exact Nat.one_pos
  | succ n ih => have := ih (k + 2); unfold hornerDen; positivity

theorem hornerNum_le_hornerDen (u q n k : Nat) : hornerNum u q n k ≤ hornerDen q n k := by
  cases n with
  | zero => exact Nat.zero_le _
  | succ n => exact Nat.sub_le ..

/-- For y at most 2 no difference of the scheme is cut off at 0, so that the fraction is the tail of the series. -/
theorem hornerNum_div_hornerDen {u q : Nat} {y : ℝ} (hq : 0 < q) (hu : u ≤ 2 * q) (hy : (u : ℝ) = y * q) (n k : Nat)
    (hk : 1 ≤ k) :
    y ^ k / k.factorial * (hornerNum u q n k / hornerDen q n k)
      = ∑ i ∈ Finset.range n, (-1) ^ i * y ^ (k + 2 * i) / (k + 2 * i).factorial := by
  induction n generalizing k with
  | zero => simp [hornerNum]
  | succ n ih =>
    have hfactor : u * u ≤ q * q * ((k + 1) * (k + 2)) := by
      calc u * u
        _ ≤ q * q * (2 * 2) := by rw [Nat.mul_mul_mul_comm, Nat.mul_comm q]; exact Nat.mul_self_le_mul_self hu
        _ ≤ q * q * ((k + 1) * (k + 2)) := by gcongr <;> omega
    have hle : u * u * hornerNum u q n (k + 2) ≤ hornerDen q (n + 1) k :=
      Nat.mul_le_mul hfactor (hornerNum_le_hornerDen ..)
    have hden : (hornerDen q n (k + 2) : ℝ) ≠ 0 := by exact_mod_cast (hornerDen_pos hq n (k + 2)).ne'
    have hq' : (q : ℝ) ≠ 0 := by exact_mod_cast hq.ne'
    have hshift (i : Nat) : k + 2 * (i + 1) = k + 2 + 2 * i := by ring
    have htail := ih (k + 2) (by omega)
    rw [Finset.sum_range_succ']
    simp only [hshift, pow_succ (-1 : ℝ), mul_neg_one, neg_mul, neg_div, Finset.sum_neg_distrib, ← htail]
    rw [hornerNum, Nat.cast_sub hle, hornerDen]
    simp only [Nat.factorial_succ, Nat.mul_zero, Nat.add_zero]
    push_cast
    rw [hy]
    generalize (hornerNum u q n (k + 2) : ℝ) = num
    generalize (hornerDen q n (k + 2) : ℝ) = den at hden ⊢
    field_simp
    ring

theorem sinTaylor_eq_div {u q : Nat} {y : ℝ} (hq : 0 < q) (hu : u ≤ 2 * q) (hy : (u : ℝ) = y * q) (n : Nat) :
    sinTaylor n y = (u * hornerNum u q n 1 : ℕ) / (q * hornerDen q n 1 : ℕ) := by
  have h := hornerNum_div_hornerDen hq hu hy n 1 le_rfl
  have hq' : (q : ℝ) ≠ 0 := by exact_mod_cast hq.ne'
  simp only [pow_one, Nat.factorial_one, Nat.cast_one, div_one, Nat.add_comm 1] at h
  rw [sinTaylor, ← h, Nat.cast_mul, Nat.cast_mul, hy, mul_div_mul_comm, mul_div_cancel_right₀ _ hq']

/-! ## A fraction for the sine

Nine terms of the series at the angle of index j, with fourteen decimals of pi. -/

/-- Fourteen decimals of pi. -/
def piDigits : Nat := 314159265358979

/-- The angle of index j is nearly j * piDigits of these parts of a radian. -/
def angleParts : Nat := 32768 * 10 ^ 14

/-- The sine of the angle of index j is nearly this over `romDen`. -/
def romNum (j : Nat) : Nat := j * piDigits * hornerNum (j * piDigits) angleParts 9 1

/-- The denominator of the fraction of every index. -/
def romDen : Nat := angleParts * hornerDen angleParts 9 1

theorem piDigits_accurate : |Real.pi - piDigits / 10 ^ 14| ≤ 1 / 10 ^ 14 := by
  have hlo := Real.pi_gt_d20
  have hhi := Real.pi_lt_d20
  rw [abs_le, piDigits]
  constructor <;> push_cast <;> linarith

/-- The angle of index j, with `piDigits` for pi. -/
noncomputable def romAngle (j : Nat) : ℝ := j * piDigits / angleParts

theorem romDen_pos : 0 < romDen := Nat.mul_pos (by decide) (hornerDen_pos (by decide) 9 1)

theorem sinTaylor_romAngle {j : Nat} (hj : j ≤ 16384) : sinTaylor 9 (romAngle j) = romNum j / romDen := by
  have hparts : (angleParts : ℝ) ≠ 0 := by norm_num [angleParts]
  have hu : j * piDigits ≤ 2 * angleParts := by unfold piDigits angleParts; omega
  have hy : ((j * piDigits : ℕ) : ℝ) = romAngle j * angleParts := by
    rw [romAngle, div_mul_cancel₀ _ hparts, Nat.cast_mul]
  exact sinTaylor_eq_div (by decide) hu hy 9

theorem romAngle_accurate {j : Nat} (hj : j ≤ 16384) : |bamRadians j - romAngle j| ≤ 1 / 10 ^ 14 := by
  have hj' : (j : ℝ) ≤ 16384 := by exact_mod_cast hj
  have hdifference : bamRadians j - romAngle j = j / 32768 * (Real.pi - piDigits / 10 ^ 14) := by
    rw [bamRadians, romAngle, angleParts]
    push_cast
    ring
  calc |bamRadians j - romAngle j|
    _ = j / 32768 * |Real.pi - piDigits / 10 ^ 14| := by
      rw [hdifference, abs_mul, abs_of_nonneg (by positivity)]
    _ ≤ 1 * (1 / 10 ^ 14) := by
      gcongr
      · linarith
      · exact piDigits_accurate
    _ = 1 / 10 ^ 14 := one_mul _

/-- The fraction of index j is far closer to the sine than half a unit of a ROM entry. -/
theorem romNum_div_romDen_accurate {j : Nat} (hj : j ≤ 16384) :
    |Real.sin (bamRadians j) - romNum j / romDen| < 1 / (32768 * 10 ^ 7) := by
  have hj' : (j : ℝ) ≤ 16384 := by exact_mod_cast hj
  have hangle : |romAngle j| ≤ 1.6 := by
    rw [romAngle, piDigits, angleParts, abs_of_nonneg (by positivity)]
    push_cast
    linarith
  have htaylor : |Real.sin (romAngle j) - romNum j / romDen| ≤ 1.6 ^ 18 / (18).factorial * 2 := by
    rw [← sinTaylor_romAngle hj]
    refine (abs_sin_sub_sinTaylor_le (by push_cast; linarith)).trans ?_
    gcongr
  calc |Real.sin (bamRadians j) - romNum j / romDen|
    _ ≤ |Real.sin (bamRadians j) - Real.sin (romAngle j)| + |Real.sin (romAngle j) - romNum j / romDen| :=
      abs_sub_le ..
    _ ≤ 1 / 10 ^ 14 + 1.6 ^ 18 / (18).factorial * 2 :=
      add_le_add ((Real.abs_sin_sub_sin_le ..).trans (romAngle_accurate hj)) htaylor
    _ < 1 / (32768 * 10 ^ 7) := by norm_num [Nat.factorial]

/-! ## The addition theorem -/

/-- The sine of the angle of index j + i, from the sines of its parts and of their complements to a quarter turn. -/
theorem sin_bamRadians_add {j i : Nat} (hj : j ≤ 16384) (hi : i ≤ 16384) :
    Real.sin (bamRadians (j + i : ℕ)) = Real.sin (bamRadians j) * Real.sin (bamRadians (16384 - i : ℕ))
      + Real.sin (bamRadians (16384 - j : ℕ)) * Real.sin (bamRadians i) := by
  have hcos {n : Nat} (hn : n ≤ 16384) : Real.sin (bamRadians (16384 - n : ℕ)) = Real.cos (bamRadians n) := by
    rw [← Real.sin_pi_div_two_sub, Nat.cast_sub hn]
    congr 1
    unfold bamRadians
    push_cast
    ring
  have hadd : bamRadians (j + i : ℕ) = bamRadians j + bamRadians i := by
    unfold bamRadians
    push_cast
    ring
  rw [hadd, Real.sin_add, hcos hj, hcos hi]

/-- The numerator that the addition theorem gives for index j + i, over the square of `romDen`. -/
def sumNum (j i : Nat) : Nat := romNum j * romNum (16384 - i) + romNum (16384 - j) * romNum i

/-- Small errors of two factors of magnitude at most 1 add up in the product. -/
theorem abs_mul_sub_mul_le {s c a b δ : ℝ} (hs : |s| ≤ 1) (hc : |c| ≤ 1) (hδ : δ ≤ 1) (ha : |s - a| ≤ δ) (hb : |c - b| ≤ δ) :
    |s * c - a * b| ≤ 3 * δ := by
  have hδ' : 0 ≤ δ := (abs_nonneg _).trans ha
  have ha' : |a| ≤ 2 := by
    rw [abs_le] at *
    constructor <;> linarith
  calc |s * c - a * b|
    _ = |(s - a) * c + a * (c - b)| := by congr 1; ring
    _ ≤ |s - a| * |c| + |a| * |c - b| := by rw [← abs_mul, ← abs_mul]; exact abs_add_le ..
    _ ≤ δ * 1 + 2 * δ := by gcongr
    _ = 3 * δ := by ring

theorem sumNum_accurate {j i : Nat} (hj : j ≤ 16384) (hi : i ≤ 16384) :
    |Real.sin (bamRadians (j + i : ℕ)) - sumNum j i / (romDen * romDen : ℕ)| ≤ 6 / (32768 * 10 ^ 7) := by
  have hproduct {m n : Nat} (hm : m ≤ 16384) (hn : n ≤ 16384) :
      |Real.sin (bamRadians m) * Real.sin (bamRadians n) - romNum m / romDen * (romNum n / romDen)|
        ≤ 3 * (1 / (32768 * 10 ^ 7)) :=
    abs_mul_sub_mul_le (Real.abs_sin_le_one _) (Real.abs_sin_le_one _) (by norm_num)
      (romNum_div_romDen_accurate hm).le (romNum_div_romDen_accurate hn).le
  have hfirst := hproduct hj (Nat.sub_le 16384 i)
  have hsecond := hproduct (Nat.sub_le 16384 j) hi
  have hsum : (sumNum j i : ℝ) / (romDen * romDen : ℕ)
      = romNum j / romDen * (romNum (16384 - i) / romDen) + romNum (16384 - j) / romDen * (romNum i / romDen) := by
    rw [sumNum]
    generalize romDen = den
    push_cast
    ring
  rw [sin_bamRadians_add hj hi, hsum]
  rw [abs_le] at *
  constructor <;> linarith

/-! ## One entry against its fraction -/

/-- The entry e is within 1/2 of 16384 times the fraction, with 10^-6 / 2 to spare for the error of the fraction. -/
def fitsFraction (num den e : Nat) : Bool :=
  let sine := 32768 * 10 ^ 6 * num
  let entry := 2 * 10 ^ 6 * den * e
  Nat.ble entry (sine + 999999 * den) && Nat.ble sine (entry + 999999 * den)

theorem abs_sub_le_of_fitsFraction {num den e : Nat} (hden : 0 < den) (h : fitsFraction num den e = true) :
    |(e : ℝ) - 16384 * (num / den)| ≤ 1 / 2 - 1 / (2 * 10 ^ 6) := by
  simp only [fitsFraction, Bool.and_eq_true, Nat.ble_eq] at h
  obtain ⟨hhi, hlo⟩ := h
  rify at hden hhi hlo
  have hnum : (num : ℝ) = num / den * den := (div_mul_cancel₀ _ hden.ne').symm
  rw [hnum] at hhi hlo
  have hhi' : 2 * 10 ^ 6 * (e : ℝ) ≤ 32768 * 10 ^ 6 * (num / den) + 999999 := le_of_mul_le_mul_right (by linarith) hden
  have hlo' : 32768 * 10 ^ 6 * (num / den : ℝ) ≤ 2 * 10 ^ 6 * e + 999999 := le_of_mul_le_mul_right (by linarith) hden
  rw [abs_le]
  constructor <;> linarith

/-- The entry e is the integer nearest to 16384 times the sine at index j + i. -/
def entryFits (j i e : Nat) : Bool := fitsFraction (sumNum j i) (romDen * romDen) e

/-- An entry that fits has an error below 1/2 (R163). -/
theorem abs_lt_half_of_entryFits {j i e : Nat} (hj : j ≤ 16384) (hi : i ≤ 16384) (h : entryFits j i e = true) :
    |(e : ℝ) - 16384 * Real.sin (bamRadians (j + i : ℕ))| < 1 / 2 := by
  have hfraction := abs_sub_le_of_fitsFraction (Nat.mul_pos romDen_pos romDen_pos) h
  have hsine := sumNum_accurate hj hi
  rw [abs_le] at hsine hfraction
  rw [abs_lt]
  constructor <;> linarith

/-! ## The rows of a ROM -/

/-- The n entries of a word, the one at index `first` most significant, fit. -/
def rowEntriesFit (first : Nat) : Nat → Nat → Bool
  | 0, _ => true
  | n + 1, w => entryFits first n (w % 2 ^ 16) && rowEntriesFit first n (w / 2 ^ 16)

theorem entryFits_of_rowEntriesFit {first n w i : Nat} (h : rowEntriesFit first n w = true) (hi : i < n) :
    entryFits first i (w / 2 ^ (16 * (n - 1 - i)) % 2 ^ 16) = true := by
  induction n generalizing w with
  | zero => exact absurd hi (Nat.not_lt_zero i)
  | succ n ih =>
    rw [rowEntriesFit, Bool.and_eq_true] at h
    obtain ⟨hlast, hrest⟩ := h
    obtain rfl | hlt := Nat.eq_or_lt_of_le (Nat.le_of_lt_succ hi)
    · simpa using hlast
    · have hpow : 16 * (n + 1 - 1 - i) = 16 + 16 * (n - 1 - i) := by omega
      rw [hpow, pow_add, ← Nat.div_div_eq_div_mul]
      exact ih hrest hlt

/-- Every entry of the ROM but the last fits, row by row. -/
def RowsFit (rom : SineRom) : Prop :=
  ∀ b r : Fin 16, rowEntriesFit (1024 * b.val + 64 * r.val) 64 (rom.blocks[b])[r].toNat = true

/-- Where an entry stands in the ROM's words. -/
theorem sineRom_entry_eq (rom : SineRom) (b r : Fin 16) {i : Nat} (hi : i < 64) :
    rom.entry (1024 * b.val + 64 * r.val + i) = (rom.blocks[b])[r].toNat / 2 ^ (16 * (63 - i)) % 2 ^ 16 := by
  have hj : 1024 * b.val + 64 * r.val + i < 16384 := by omega
  have hb : ((BitVec.ofNat 14 (1024 * b.val + 64 * r.val + i)).extractLsb' 10 4).toFin = b := by
    apply Fin.ext
    rw [BitVec.val_toFin, toNat_extractLsb', BitVec.toNat_ofNat]
    omega
  have hr : ((BitVec.ofNat 14 (1024 * b.val + 64 * r.val + i)).extractLsb' 6 4).toFin = r := by
    apply Fin.ext
    rw [BitVec.val_toFin, toNat_extractLsb', BitVec.toNat_ofNat]
    omega
  have hcolumn : ((BitVec.ofNat 14 (1024 * b.val + 64 * r.val + i)).extractLsb' 0 6).toNat = i := by
    rw [toNat_extractLsb', BitVec.toNat_ofNat]
    omega
  rw [SineRom.entry, if_pos hj]
  simp only [hb, hr, hcolumn, toNat_extractLsb']

/-- The entries of a ROM whose rows fit are the integers nearest to their values; the last one's value is 16384. -/
theorem RowsFit.nearest {rom : SineRom} (h : RowsFit rom) (htop : rom.entry 16384 = 16384) {j : Nat} (hj : j ≤ 16384) :
    |(rom.entry j : ℝ) - 16384 * Real.sin (bamRadians j)| < 1 / 2 := by
  obtain hlt | rfl := Nat.lt_or_eq_of_le hj
  · have hindex : j = 1024 * (j / 1024) + 64 * (j / 64 % 16) + j % 64 := by omega
    have hi : j % 64 < 64 := Nat.mod_lt j (by decide)
    have hfits := entryFits_of_rowEntriesFit (h ⟨j / 1024, by omega⟩ ⟨j / 64 % 16, Nat.mod_lt _ (by decide)⟩) hi
    have hnearest := abs_lt_half_of_entryFits (by omega) (by omega) hfits
    rwa [← sineRom_entry_eq _ _ _ hi, ← hindex] at hnearest
  · have hquarter : bamRadians (16384 : ℕ) = Real.pi / 2 := by
      rw [bamRadians]
      push_cast
      ring
    rw [htop, hquarter, Real.sin_pi_div_two]
    norm_num

/-- Entries nearest to the values of a function that is non-decreasing up to a quarter turn are non-decreasing. -/
theorem mono_of_nearest {rom : Nat → Nat}
    (h : ∀ j, j ≤ 16384 → |(rom j : ℝ) - 16384 * Real.sin (bamRadians j)| < 1 / 2) {i j : Nat} (hij : i ≤ j)
    (hj : j ≤ 16384) : rom i ≤ rom j := by
  have hnearest := h i (hij.trans hj)
  have hnearest' := h j hj
  have hle : bamRadians i ≤ bamRadians j := by unfold bamRadians; gcongr
  have hlow : -(Real.pi / 2) ≤ bamRadians i := (neg_nonpos.mpr (by positivity)).trans (by unfold bamRadians; positivity)
  have hhigh : bamRadians j ≤ Real.pi / 2 := by
    have hj' : (j : ℝ) ≤ 16384 := by exact_mod_cast hj
    rw [bamRadians, div_le_div_iff₀ (by norm_num) (by norm_num)]
    nlinarith [Real.pi_pos]
  have hsin := Real.sin_le_sin_of_le_of_le_pi_div_two hlow hhigh hle
  rw [abs_lt] at hnearest hnearest'
  have hlt : (rom i : ℝ) < rom j + 1 := by linarith
  exact Nat.le_of_lt_succ (by exact_mod_cast hlt)

/-! ## The default ROM -/

theorem hardware_sine : hardware.sine = defaultRom.entry := rfl

/-- The entries that R163 lists, with the first and the last. -/
theorem defaultRom_listed :
    let q (j : Nat) : Nat := defaultRom.entry j
    q 0 = 0 ∧ q 16384 = 16384
    ∧ q 1 = 2 ∧ q 2 = 3 ∧ q 3 = 5 ∧ q 91 = 143 ∧ q 182 = 286 ∧ q 1024 = 1606 ∧ q 2048 = 3196 ∧ q 4096 = 6270
    ∧ q 5461 = 8192 ∧ q 8192 = 11585 ∧ q 10923 = 14189 ∧ q 12288 = 15137 ∧ q 14336 = 16069 ∧ q 16383 = 16384 := by
  decide +kernel

/-- The one evaluation of the whole table, block by block; everything else about it is a consequence. -/
theorem defaultRom_rowsFit : RowsFit defaultRom := by
  intro b
  fin_cases b <;> decide +kernel

theorem defaultRom_nearest {j : Nat} (hj : j ≤ 16384) :
    |(defaultRom.entry j : ℝ) - 16384 * Real.sin (bamRadians j)| < 1 / 2 := by
  obtain ⟨-, htop, -⟩ := defaultRom_listed
  exact RowsFit.nearest defaultRom_rowsFit htop hj

/-- Settles O58: every entry is the integer nearest to its value. -/
theorem defaultRomIsAccurate : Obligations.DefaultRomIsAccurate := by
  unfold Obligations.DefaultRomIsAccurate
  rw [hardware_sine]
  exact fun j hj => (defaultRom_nearest hj).le

/-- Settles O57: the order of the entries is that of the sine, and the last entry bounds the others. -/
theorem defaultRomProperties : Obligations.DefaultRomProperties := by
  obtain ⟨hbottom, htop, hlisted⟩ := defaultRom_listed
  have hmono : ∀ i j, i ≤ j → j ≤ 16384 → defaultRom.entry i ≤ defaultRom.entry j :=
    fun _ _ => mono_of_nearest fun _ => defaultRom_nearest
  unfold Obligations.DefaultRomProperties
  rw [hardware_sine]
  exact ⟨⟨hbottom, htop, hmono⟩, fun j hj => htop ▸ hmono j 16384 hj le_rfl, hlisted⟩

end Sys2Proof.Machine

/-!
PROOF. The quality filter (43_filter.md): when a sample is rejected, and from that the no-return samples (R183) and the
empty windows (R184).
-/

namespace Sys2Proof.Machine

theorem acceptSample_eq_false_iff (lo hi d : Half) (least i : Byte) :
    acceptSample lo hi least d i = false ↔
      d.toNat ≤ lo.toNat ∨ hi.toNat ≤ d.toNat ∨ i.toNat ≤ least.toNat := by
  rw [← Bool.not_eq_true, acceptSample_iff]
  omega

/-- Settles O60: distance 0 is not above any minimum, the largest words are not below any value, and no distance lies
strictly between neighbours. -/
theorem filterAcceptsStrictlyInside : Obligations.FilterAcceptsStrictlyInside := by
  unfold Obligations.FilterAcceptsStrictlyInside
  intro lo hi d least i
  simp only [acceptSample_eq_false_iff]
  refine ⟨acceptSample_iff lo hi d least i, ?noReturn, ?farthest, ?emptyWindow, ?brightest⟩
  case noReturn => exact .inl (Nat.zero_le _)
  case farthest => exact .inr (.inl (Nat.le_of_lt_succ hi.isLt))
  case emptyWindow =>
    intro hempty
    omega
  case brightest => exact .inr (.inr (Nat.le_of_lt_succ i.isLt))

end Sys2Proof.Machine

/-!
PROOF. The reserved rows and the stop after one of them (44_scheduler.md R207), and the output consumer's row (R205).
-/

namespace Sys2Proof.Machine

/-! ## The reserved rows -/

/-- The rows that only record a model fault: RX_RESERVED (41_frame_decoder.md R138), VISIT_RESERVED (R195) and
EV_RESERVED (R207). -/
def IsReserved : Instr → Prop
  | .rxReserved .. | .visitReserved _ | .evReserved _ => True
  | _ => False

/-- A reserved row records the word that encodes it. -/
theorem exec_of_isReserved {i : Instr} (s : State) (h : IsReserved i) :
    exec i s = .next (s.recordFault (encode s.cfg i)) := by
  cases i with
  | rxReserved | visitReserved | evReserved => rfl
  | _ => exact h.elim

/-- Of the VISIT words only those with CHEN = 1 and ST = 3 are reserved, and their row keeps the low bits. -/
theorem encode_decodeVisit_of_isReserved (cfg : Config) {chen : Bool} {st : BitVec 2} {low : BitVec 10}
    (h : IsReserved (decodeVisit chen st low)) : encode cfg (decodeVisit chen st low) = visitWord chen st low := by
  cases chen with
  | false => exact h.elim
  | true =>
    obtain rfl | rfl | rfl | rfl := st_cases st
    · exact h.elim
    · exact h.elim
    · exact h.elim
    · rfl

/-- A reserved row leaves no bit of its word undefined, so encoding it gives back the word it was read from. -/
theorem encode_decode_of_isReserved (cfg : Config) (e : Event) (h : IsReserved (decode cfg e)) :
    encode cfg (decode cfg e) = e.word := by
  by_cases hdefined : e.word.toNat < 0x4000 ∨ 0xC000 ≤ e.word.toNat
  · exact encode_decode_of_defined e hdefined
  · obtain ⟨w, c, d⟩ := e
    replace hdefined : ¬(w.toNat < 0x4000 ∨ 0xC000 ≤ w.toNat) := hdefined
    obtain hclass | hclass | hclass | hclass : w.toNat / 0x2000 = 2 ∨ w.toNat / 0x2000 = 3 ∨ w.toNat / 0x2000 = 4
        ∨ w.toNat / 0x2000 = 5 := by omega
    · rw [eq_visitWord hclass, decode_visitWord] at h ⊢
      exact encode_decodeVisit_of_isReserved cfg h
    · rw [decode_xf cfg c d hclass] at h
      split at h
      next => exact h.elim
      next => exact h.elim
    · rw [decode_pop cfg c d hclass] at h
      exact h.elim
    · rw [decode_reset cfg c d hclass] at h
      exact h.elim

/-- Settles O29: a reserved row records the word that encodes it, which is the event's own. -/
theorem reservedEventsRecordModelFault : Obligations.ReservedEventsRecordModelFault := by
  intro e s i hrow
  have hreserved : IsReserved i := by
    obtain ⟨c, st, last, crcm, b, h⟩ | ⟨low, h⟩ | ⟨low, h⟩ := hrow
    · rw [h]; trivial
    · rw [h]; trivial
    · rw [h]; trivial
  rw [exec_of_isReserved s hreserved, encode_decode_of_isReserved s.cfg e hreserved]
  rfl

/-! ## After a recorded model fault -/

/-- Settles O9: the recorded fault is what a step looks at first. -/
theorem recordedModelFaultStopsTheMachine : Obligations.RecordedModelFaultStopsTheMachine := by
  intro s w hfault
  rw [step, hfault]

/-! ## The output consumer -/

/-- Settles O42: the POP word selects the row, which takes the head of OUTQ. -/
theorem outPopDeliversHead : Obligations.OutPopDeliversHead := by
  intro s r rest hq
  constructor
  · exact decode_popWord s.cfg
  · rw [exec_outPop, hq, List.tail_cons, List.take_succ_cons, List.take_zero]

end Sys2Proof.Machine

/-!
PROOF. The scheduler's visits (44_scheduler.md R190 to R194): every visit replaces the visited channel's state and moves the
pointer, said once as `State.visited`; from that the rows and a whole quiet round (R197).
-/

namespace Sys2Proof.Machine

/-! ## What a visit makes of the machine -/

/-- The visited channel replaced, the pointer moved (R190), the step labelled e. -/
def State.visited (s : State) (ch : Channel) (e : ErrorEvent) : State :=
  { s with
    hw := (s.hw.setChan s.hw.sp ch).advancePointer s.cfg.nch
    env := { s.env with raised := e } }

/-- A partial packet one visit older (R192). -/
def Channel.aged (ch : Channel) : Channel := { ch with age := nextAge ch.age }

/-- A partial packet dropped by its timeout (R192). -/
def Channel.expired (diagEn : Bool) (ch : Channel) : Channel :=
  { ch.toSearch with cntTmo := countUp diagEn ch.cntTmo }

section
variable {s : State} {ch : Channel} {e : ErrorEvent}

@[simp] theorem State.chan_visited_same : (s.visited ch e).chan s.hw.sp = ch := Block.chan_setChan_same ..

theorem State.chan_visited_other {d : Chan} (hd : d ≠ s.hw.sp) : (s.visited ch e).chan d = s.chan d :=
  Block.chan_setChan_other _ _ hd

theorem State.visited_moved (hlegal : s.cfg.Legal) : PointerMoved s.cfg.nch s.hw (s.visited ch e).hw := by
  obtain ⟨hpos, hmax, -⟩ := hlegal
  exact (s.hw.setChan s.hw.sp ch).advancePointer_moved ⟨hpos, hmax⟩

/-- A visit that leaves its channel as it was only moves the pointer. -/
theorem State.visited_chan (s : State) :
    s.visited (s.chan s.hw.sp) s.env.raised = { s with hw := s.hw.advancePointer s.cfg.nch } := by
  rw [State.visited, State.chan_eq, Block.setChan_chan]

/-! ## The rows -/

/-- VISIT_IDLE (R193). -/
theorem exec_visitIdle (hforms : s.visitForms true SEARCH = true) :
    exec .visitIdle s = .next (s.visited (s.chan s.hw.sp) s.env.raised) := by
  rw [State.visited_chan]
  exact if_pos hforms

/-- VISIT_OFF (R194). -/
theorem exec_visitOff {st : BitVec 2} (hforms : s.visitForms false st = true) :
    exec (.visitOff st) s = .next (s.visited (s.chan s.hw.sp) s.env.raised) := by
  rw [State.visited_chan]
  exact if_pos hforms

/-- VISIT_AGE (R192) before the timeout. -/
theorem exec_visitAge_of_not_timedOut (hforms : s.visitForms true ACCUM = true)
    (hage : timedOut s.hw.tmoRounds (nextAge (s.chan s.hw.sp).age) = false) :
    exec .visitAge s = .next (s.visited (s.chan s.hw.sp).aged s.env.raised) :=
  (if_pos hforms).trans (if_neg (Bool.eq_false_iff.mp hage))

/-- VISIT_AGE (R192) at the timeout. -/
theorem exec_visitAge_of_timedOut (hforms : s.visitForms true ACCUM = true)
    (hage : timedOut s.hw.tmoRounds (nextAge (s.chan s.hw.sp).age) = true) :
    exec .visitAge s
      = .next (s.visited ((s.chan s.hw.sp).expired s.hw.ctrl.diagEn) (.timeoutError s.hw.sp)) :=
  (if_pos hforms).trans (if_pos hage)

end

/-- The number of a VISIT word selects the row that the fields of the word select (30_encoding.md R104). -/
theorem rowOf_decodeVisit (cfg : Config) (c : Chan) (d : Word) {w : Nat} {chen : Bool} {st : BitVec 2} {low : BitVec 10}
    (hw : w = (visitWord chen st low).toNat) : RowOf cfg w c d (decodeVisit chen st low) := by
  rw [RowOf, hw, BitVec.ofNat_toNat, BitVec.setWidth_eq]
  exact decode_visitWord ..

/-- Settles O35: both rows write the visited channel back as it was. -/
theorem idleVisitsOnlyMoveThePointer : Obligations.IdleVisitsOnlyMoveThePointer := by
  intro s hlegal hen hidle moves
  have moves_of_exec {w : Nat} {i : Instr} (hrow : RowOf s.cfg w 0 0#32 i)
      (hexec : exec i s = .next (s.visited (s.chan s.hw.sp) s.env.raised)) : moves w i :=
    ⟨hrow, _, hexec, State.visited_moved hlegal, State.visited_chan s⟩
  constructor
  · intro hchen hst
    exact moves_of_exec rfl (exec_visitIdle ((s.visitForms_iff ..).mpr ⟨hen, hidle, hchen, hst⟩))
  · intro hchen
    exact moves_of_exec (rowOf_decodeVisit (chen := false) (low := 0#10) _ _ _ (by rw [toNat_visitWord]; rfl))
      (exec_visitOff ((s.visitForms_iff ..).mpr ⟨hen, hidle, hchen, rfl⟩))

/-! ## The latches of a dispatch -/

/-- DIST_k, little-endian at its offset (42_geometry.md R150). -/
theorem Memory.distances_toNat (m : Memory) (k : SampleIx) :
    m.distances[k].toNat = (m.read (6 + 3 * k.val)).toNat + 256 * (m.read (7 + 3 * k.val)).toNat := by
  have hnext : 6 + 3 * k.val + 1 = 7 + 3 * k.val := by omega
  rw [Memory.distances, Fin.getElem_fin, Vector.getElem_ofFn, Memory.wire16_toNat, hnext]

/-- INT_k at its offset (42_geometry.md R150). -/
theorem Memory.intensities_getElem (m : Memory) (k : SampleIx) : m.intensities[k] = m.read (8 + 3 * k.val) := by
  rw [Memory.intensities, Fin.getElem_fin, Vector.getElem_ofFn]

/-- Settles O36: the channel is `Channel.toSearch`, the latches are `Block.latch`. -/
theorem dispatchLatchesPacket : Obligations.DispatchLatchesPacket := by
  intro s hlegal hen hidle hchen hst
  obtain ⟨hpos, hmax, -⟩ := hlegal
  have hforms : s.visitForms true READY = true := (s.visitForms_iff ..).mpr ⟨hen, hidle, hchen, hst⟩
  refine ⟨rfl, _, if_pos hforms, Block.advancePointer_moved _ ⟨hpos, hmax⟩, rfl,
    Block.chan_setChan_same .., fun d hd => Block.chan_setChan_other _ _ hd, rfl, rfl, rfl, rfl,
    Memory.wire16_toNat .., Memory.wire16_toNat .., fun k => ⟨Memory.distances_toNat .., ?_⟩,
    rfl, rfl, rfl, rfl, rfl, rfl, rfl, rfl⟩
  exact congrArg BitVec.toNat (Memory.intensities_getElem ..)

/-! ## Ageing -/

/-- Settles O37: the channel is `Channel.expired` where the new age has reached TMO_ROUNDS, and `Channel.aged` else. -/
theorem ageVisitTimesOut : Obligations.AgeVisitTimesOut := by
  intro s hlegal hen hidle hchen hst
  refine ⟨rfl, ?_⟩
  have hforms : s.visitForms true ACCUM = true := (s.visitForms_iff ..).mpr ⟨hen, hidle, hchen, hst⟩
  have htimeout := timedOut_iff s.hw.tmoRounds (nextAge (s.chan s.hw.sp).age)
  rw [nextAge_toNat] at htimeout
  cases hage : timedOut s.hw.tmoRounds (nextAge (s.chan s.hw.sp).age) with
  | true =>
    refine ⟨_, exec_visitAge_of_timedOut hforms hage, State.visited_moved hlegal, rfl,
      fun d hd => State.chan_visited_other hd, ?_⟩
    dsimp only
    rw [if_pos (htimeout.mp hage), State.chan_visited_same]
    exact ⟨rfl, countUp_counted .., rfl⟩
  | false =>
    refine ⟨_, exec_visitAge_of_not_timedOut hforms hage, State.visited_moved hlegal, rfl,
      fun d hd => State.chan_visited_other hd, ?_⟩
    dsimp only
    rw [if_neg (htimeout.not.mp (Bool.eq_false_iff.mp hage)), State.chan_visited_same]
    exact ⟨rfl, nextAge_toNat _, rfl⟩

/-! ## A quiet round (R197) -/

/-- An enabled channel with no packet READY. -/
def Channel.Quiet (ch : Channel) : Prop := ch.chEn = true → ch.st = SEARCH ∨ ch.st = ACCUM

/-- What a visit makes of a quiet channel while no timeout is set. -/
def Channel.quietlyVisited (ch : Channel) : Channel := if ch.chEn = true ∧ ch.st = ACCUM then ch.aged else ch

/-- TMO_ROUNDS = 0 disables the timeout (10_state.md R35). -/
theorem timedOut_zero (age : Half) : timedOut 0#16 age = false := rfl

section
variable {s : State}

/-- A visit of a quiet channel, whichever row its state selects. -/
theorem exec_decodeVisit_of_quiet (hen : s.hw.ctrl.en = true) (hidle : s.hw.xf.busy = false)
    (htmo : s.hw.tmoRounds = 0#16) (hquiet : (s.chan s.hw.sp).Quiet) (low : BitVec 10) :
    exec (decodeVisit (s.chan s.hw.sp).chEn (s.chan s.hw.sp).st low) s
      = .next (s.visited (s.chan s.hw.sp).quietlyVisited s.env.raised) := by
  have hforms : s.visitForms (s.chan s.hw.sp).chEn (s.chan s.hw.sp).st = true :=
    (s.visitForms_iff ..).mpr ⟨hen, hidle, rfl, rfl⟩
  cases hchen : (s.chan s.hw.sp).chEn with
  | false =>
    rw [hchen] at hforms
    rw [Channel.quietlyVisited, if_neg (by simp [hchen])]
    exact exec_visitOff hforms
  | true =>
    obtain hst | hst := hquiet hchen
    · rw [hchen, hst] at hforms
      rw [Channel.quietlyVisited, if_neg (by simp [hst]), hst]
      exact exec_visitIdle hforms
    · rw [hchen, hst] at hforms
      rw [Channel.quietlyVisited, if_pos ⟨hchen, hst⟩, hst]
      exact exec_visitAge_of_not_timedOut hforms (by rw [htmo, timedOut_zero])

/-- The machine after the turn of a visit of a quiet channel. -/
def State.quietVisit (s : State) : State := s.endTurn.visited (s.chan s.hw.sp).quietlyVisited .none

theorem State.chan_quietVisit_same (s : State) : s.quietVisit.chan s.hw.sp = (s.chan s.hw.sp).quietlyVisited :=
  State.chan_visited_same (s := s.endTurn)

theorem State.chan_quietVisit_other {c : Chan} (hc : c ≠ s.hw.sp) : s.quietVisit.chan c = s.chan c :=
  State.chan_visited_other (s := s.endTurn) hc

/-- The rest of a quiet round: the channels from the pointer up to NCH, n of them, are still to be visited, and the next n
turns are the scheduler's. -/
structure QuietRound (s : State) (n : Nat) (turns : List Stimulus) : Prop where
  legal : s.cfg.Legal
  noFault : s.modelFault = none
  en : s.hw.ctrl.en = true
  idle : s.hw.xf.busy = false
  noTimeout : s.hw.tmoRounds = 0#16
  pointer : s.hw.sp.val + n = s.cfg.nch
  quiet : ∀ c : Chan, s.hw.sp.val ≤ c.val → c.val < s.cfg.nch → (s.chan c).Quiet
  stim : s.env.stim = List.replicate n .visit ++ turns

variable {n : Nat} {turns : List Stimulus}

theorem QuietRound.step (h : QuietRound s (n + 1) turns) : Machine.step s = .next s.quietVisit := by
  have hquiet : (s.chan s.hw.sp).Quiet := h.quiet s.hw.sp le_rfl (by have := h.pointer; omega)
  have hinstr := State.nextInstr_some (State.nextEvent_visit h.stim h.en h.idle)
  rw [State.visitWordFor, decode_visitWord] at hinstr
  rw [step_of_instr h.noFault hinstr]
  exact exec_decodeVisit_of_quiet (s := s.endTurn) h.en h.idle h.noTimeout hquiet 0#10

/-- The pointer after a visit of the round. -/
theorem QuietRound.sp_quietVisit (h : QuietRound s (n + 1) turns) :
    s.quietVisit.hw.sp.val = if n = 0 then 0 else s.hw.sp.val + 1 := by
  obtain ⟨hpos, hmax, -⟩ := h.legal
  have hnext : s.quietVisit.hw.sp.val = (s.hw.sp.val + 1) % s.cfg.nch := nextChan_val _ ⟨hpos, hmax⟩
  have := h.pointer
  rw [hnext]
  split
  next hn => rw [show s.hw.sp.val + 1 = s.cfg.nch by omega, Nat.mod_self]
  next hn => exact Nat.mod_eq_of_lt (by omega)

/-- ROUND counts the visit that brings the pointer back to channel 0, and no other. -/
theorem QuietRound.round_quietVisit (h : QuietRound s (n + 1) turns) :
    s.quietVisit.hw.round = if n = 0 then s.hw.round + 1#32 else s.hw.round := by
  have hround : s.quietVisit.hw.round = if s.quietVisit.hw.sp.val = 0 then s.hw.round + 1#32 else s.hw.round := rfl
  rw [hround, h.sp_quietVisit]
  by_cases hn : n = 0 <;> simp [hn]

/-- The round goes on behind the channel visited. -/
theorem QuietRound.next (h : QuietRound s (n + 1 + 1) turns) : QuietRound s.quietVisit (n + 1) turns := by
  have hsp : s.quietVisit.hw.sp.val = s.hw.sp.val + 1 := h.sp_quietVisit
  exact {
    legal := h.legal, noFault := h.noFault, en := h.en, idle := h.idle, noTimeout := h.noTimeout
    pointer := by rw [hsp, Nat.add_assoc, Nat.add_comm 1]; exact h.pointer
    quiet := by
      intro c hle hlt
      have hc : c ≠ s.hw.sp := by rintro rfl; omega
      rw [State.chan_quietVisit_other hc]
      exact h.quiet c (by omega) hlt
    stim := congrArg List.tail h.stim }

/-- The rest of the round visits each of its channels once, by induction on their number. -/
theorem QuietRound.run (h : QuietRound s (n + 1) turns) :
    ∃ t, Sys2Proof.core.run (n + 1) s = .next t
      ∧ t.hw.sp.val = 0 ∧ t.hw.round = s.hw.round + 1#32 ∧ t.env.stim = turns
      ∧ ∀ c : Chan, t.chan c
          = if s.hw.sp.val ≤ c.val ∧ c.val < s.cfg.nch then (s.chan c).quietlyVisited else s.chan c := by
  induction n generalizing s with
  | zero =>
    have hpointer := h.pointer
    refine ⟨s.quietVisit, run_succ_of_next 0 h.step, h.sp_quietVisit, h.round_quietVisit,
      congrArg List.tail h.stim, fun c => ?_⟩
    by_cases hc : c = s.hw.sp
    · rw [hc, s.chan_quietVisit_same, if_pos ⟨le_rfl, by omega⟩]
    · rw [State.chan_quietVisit_other hc, if_neg (by have := Fin.val_ne_of_ne hc; omega)]
  | succ n ih =>
    have hpointer := h.pointer
    have hcfg : s.quietVisit.cfg = s.cfg := rfl
    have hsp : s.quietVisit.hw.sp.val = s.hw.sp.val + 1 := h.sp_quietVisit
    have hround : s.quietVisit.hw.round = s.hw.round := h.round_quietVisit
    obtain ⟨t, hrun, hsp', hround', hstim, hchans⟩ := ih h.next
    refine ⟨t, (run_succ_of_next _ h.step).trans hrun, hsp', hround'.trans (by rw [hround]), hstim, fun c => ?_⟩
    rw [hchans c, hsp, hcfg]
    by_cases hc : c = s.hw.sp
    · rw [hc, s.chan_quietVisit_same, if_neg (by omega), if_pos ⟨le_rfl, by omega⟩]
    · have hne := Fin.val_ne_of_ne hc
      rw [State.chan_quietVisit_other hc]
      congr 1
      exact propext ⟨by omega, by omega⟩

end

/-- Settles O38: the round from channel 0 visits every channel of the block once. -/
theorem quietRoundVisitsEachChannelOnce : Obligations.QuietRoundVisitsEachChannelOnce := by
  intro s turns hlegal hfault hen hidle hsp htmo hquiet hstim
  obtain ⟨n, hn⟩ : ∃ n, s.cfg.nch = n + 1 := Nat.exists_eq_add_of_le' hlegal.1
  have hround : QuietRound s (n + 1) turns :=
    ⟨hlegal, hfault, hen, hidle, htmo, by omega, fun c _ hc => hquiet c hc, hn ▸ hstim⟩
  obtain ⟨t, hrun, hsp', hround', hstim', hchans⟩ := hround.run
  refine ⟨t, hn ▸ hrun, hsp', hround', hstim', fun c => ?_⟩
  rw [hchans c, hsp]
  split
  next hpartial =>
    obtain ⟨hc, hchen, hst⟩ := hpartial
    rw [if_pos ⟨Nat.zero_le _, hc⟩, Channel.quietlyVisited, if_pos ⟨hchen, hst⟩]
    exact ⟨nextAge_toNat _, rfl⟩
  next hother =>
    split
    next hc => rw [Channel.quietlyVisited, if_neg fun h => hother ⟨hc.2, h⟩]
    next => rfl

end Sys2Proof.Machine

/-!
PROOF. The transform unit's turns (44_scheduler.md R200 to R204): an accepted sample is pushed (R203), a rejected one dropped
and counted (R204), and either way the sample advances (R202); from that the twelve XF turns of a packet.
-/

namespace Sys2Proof.Machine

/-! ## The rows -/

/-- The point of the sample pushed, the sample advanced (R203). -/
def State.pushPoint (s : State) : State :=
  { s with hw := (s.hw.push (s.hw.xf.point s.cfg.sine s.hw.xf.k)).setXf s.hw.xf.advance }

/-- A channel with one more rejected sample (60_exceptions.md R266). -/
def Channel.countRejection (diagEn : Bool) (ch : Channel) : Channel := { ch with cntRej := countUp diagEn ch.cntRej }

/-- The sample dropped with RangeRejection and counted for the packet's channel, the sample advanced (R204). -/
def State.dropSample (s : State) : State :=
  { s.raise (.rangeRejection s.hw.xf.ch s.hw.xf.k) with
    hw := (s.hw.setChan s.hw.xf.ch ((s.chan s.hw.xf.ch).countRejection s.hw.ctrl.diagEn)).setXf s.hw.xf.advance }

section
variable {s : State}

@[simp] theorem State.chan_pushPoint (c : Chan) : s.pushPoint.chan c = s.chan c := rfl

@[simp] theorem State.chan_dropSample_same :
    s.dropSample.chan s.hw.xf.ch = (s.chan s.hw.xf.ch).countRejection s.hw.ctrl.diagEn := Block.chan_setChan_same ..

theorem State.chan_dropSample_other {d : Chan} (hd : d ≠ s.hw.xf.ch) : s.dropSample.chan d = s.chan d :=
  Block.chan_setChan_other _ _ hd

theorem exec_xfAccept (hbusy : s.hw.xf.busy = true) (hacc : s.hw.xf.acc = true)
    (hroom : s.hw.outq.length < s.cfg.outDepth) : exec .xfAccept s = .next s.pushPoint :=
  if_pos ((s.xfForms_iff true).mpr ⟨hbusy, hacc, fun _ => hroom⟩)

theorem exec_xfReject (hbusy : s.hw.xf.busy = true) (hrej : s.hw.xf.acc = false) :
    exec .xfReject s = .next s.dropSample :=
  if_pos ((s.xfForms_iff false).mpr ⟨hbusy, hrej, nofun⟩)

end

/-- The XF word selects the row of its ACC bit (30_encoding.md R105). -/
theorem decode_xfWord (cfg : Config) (c : Chan) (d : Word) (acc : Bool) :
    decode cfg { word := xfWord acc, chan := c, data := d } = if acc then .xfAccept else .xfReject := by
  have hclass : (xfWord acc).toNat / 0x2000 = 3 := by cases acc <;> rfl
  rw [decode_xf cfg c d hclass]
  cases acc <;> rfl

/-- Settles O39: the machine is `State.pushPoint`. -/
theorem xfAcceptPushesPoint : Obligations.XfAcceptPushesPoint := by
  intro s hbusy hacc hroom
  exact ⟨decode_xfWord s.cfg 0 0#32 true, s.pushPoint, exec_xfAccept hbusy (s.hw.xf.acc_iff.mpr hacc) hroom,
    s.hw.xf.advance_advanced, rfl, rfl⟩

/-- Settles O40: the machine is `State.dropSample`. -/
theorem xfRejectDropsSample : Obligations.XfRejectDropsSample := by
  intro s hbusy hrej
  have hacc : s.hw.xf.acc = false := Bool.eq_false_iff.mpr fun h => hrej (s.hw.xf.acc_iff.mp h)
  refine ⟨decode_xfWord s.cfg 0 0#32 false, s.dropSample, exec_xfReject hbusy hacc, s.hw.xf.advance_advanced, rfl,
    fun d hd => State.chan_dropSample_other hd, ?_⟩
  rw [State.chan_dropSample_same]
  exact ⟨countUp_counted .., rfl⟩

/-! ## A list of samples transformed -/

/-- ACCEPT for sample k against the latched thresholds (43_filter.md R180). -/
def Xform.accepts (x : Xform) (k : SampleIx) : Bool :=
  acceptSample x.minDist x.maxDist x.minInt x.dist[k] x.inten[k]

theorem Xform.acc_eq_accepts (x : Xform) : x.acc = x.accepts x.k := rfl

/-- Two transform units that differ at most in XF_BUSY and the sample index. -/
def Xform.SameLatches (x x' : Xform) : Prop := x' = { x with busy := x'.busy, k := x'.k }

section
variable {x x' : Xform}

theorem Xform.sameLatches_advance (x : Xform) : x.SameLatches x.advance := x.advance_advanced.1

theorem Xform.SameLatches.ch_eq (h : x.SameLatches x') : x'.ch = x.ch := by rw [h]

theorem Xform.SameLatches.accepts_eq (h : x.SameLatches x') : x'.accepts = x.accepts := by rw [h]; rfl

theorem Xform.SameLatches.trans {y : Xform} (h : x.SameLatches x') (h' : x'.SameLatches y) : x.SameLatches y := by
  rw [Xform.SameLatches, h', h]

end

/-- The points of the accepted ones among the samples ks, in their order. -/
def Xform.points (rom : Nat → Nat) (x : Xform) (ks : List SampleIx) : List Record :=
  (ks.filter x.accepts).map (x.point rom)

theorem Xform.points_append (rom : Nat → Nat) (x : Xform) (ks ks' : List SampleIx) :
    x.points rom (ks ++ ks') = x.points rom ks ++ x.points rom ks' := by
  simp [Xform.points]

theorem Xform.SameLatches.points_eq {x x' : Xform} (h : x.SameLatches x') (rom : Nat → Nat) :
    x'.points rom = x.points rom := by
  rw [h]; rfl

/-- The count of rejections behind the rejected ones among the samples ks. -/
def Xform.countRejections (x : Xform) (diagEn : Bool) (ks : List SampleIx) (n : Word) : Word :=
  n + if diagEn then BitVec.ofNat 32 (ks.countP (!x.accepts ·)) else 0#32

/-- What the XF turns of the samples ks make of the machine: the accepted ones are points in OUTQ, in their order, the
others are counted for the packet's channel, and the latches, the other channels and DIAG_EN stay. -/
structure Transformed (s t : State) (ks : List SampleIx) : Prop where
  cfg : t.cfg = s.cfg
  diagEn : t.hw.ctrl.diagEn = s.hw.ctrl.diagEn
  latches : s.hw.xf.SameLatches t.hw.xf
  outq : t.hw.outq = s.hw.outq ++ s.hw.xf.points s.cfg.sine ks
  cntRej : (t.chan s.hw.xf.ch).cntRej
    = s.hw.xf.countRejections s.hw.ctrl.diagEn ks (s.chan s.hw.xf.ch).cntRej
  others : ∀ d : Chan, d ≠ s.hw.xf.ch → t.chan d = s.chan d

theorem Transformed.trans {s t u : State} {ks ks' : List SampleIx} (h : Transformed s t ks) (h' : Transformed t u ks') :
    Transformed s u (ks ++ ks') where
  cfg := h'.cfg.trans h.cfg
  diagEn := h'.diagEn.trans h.diagEn
  latches := h.latches.trans h'.latches
  outq := by
    rw [h'.outq, h.outq, h.cfg, h.latches.points_eq, Xform.points_append, List.append_assoc]
  cntRej := by
    have hcount := h'.cntRej
    rw [h.latches.ch_eq, h.cntRej, h.diagEn] at hcount
    rw [hcount]
    cases hdiag : s.hw.ctrl.diagEn with
    | false => simp [Xform.countRejections]
    | true => simp [Xform.countRejections, h.latches.accepts_eq, BitVec.ofNat_add, BitVec.add_assoc]
  others d hd := (h'.others d (h.latches.ch_eq ▸ hd)).trans (h.others d hd)

theorem State.transformed_endTurn (s : State) : Transformed s s.endTurn [] where
  cfg := rfl
  diagEn := rfl
  latches := rfl
  outq := (List.append_nil _).symm
  cntRej := by simp [Xform.countRejections]
  others _ _ := rfl

theorem transformed_pushPoint {s : State} (hacc : s.hw.xf.acc = true) : Transformed s s.pushPoint [s.hw.xf.k] where
  cfg := rfl
  diagEn := rfl
  latches := s.hw.xf.sameLatches_advance
  outq := by
    rw [Xform.points, List.filter_cons_of_pos (by rw [← Xform.acc_eq_accepts, hacc])]
    rfl
  cntRej := by simp [Xform.countRejections, ← Xform.acc_eq_accepts, hacc]
  others _ _ := rfl

theorem transformed_dropSample {s : State} (hrej : s.hw.xf.acc = false) : Transformed s s.dropSample [s.hw.xf.k] where
  cfg := rfl
  diagEn := rfl
  latches := s.hw.xf.sameLatches_advance
  outq := by
    rw [Xform.points, List.filter_cons_of_neg (by rw [← Xform.acc_eq_accepts, hrej]; decide)]
    exact (List.append_nil _).symm
  cntRej := by
    rw [State.chan_dropSample_same]
    cases hdiag : s.hw.ctrl.diagEn <;>
      simp [Channel.countRejection, Xform.countRejections, ← Xform.acc_eq_accepts, hrej]
  others _ hd := State.chan_dropSample_other hd

/-! ## The turns of a packet -/

/-- The samples from the current one on. -/
def Xform.remaining (x : Xform) : List SampleIx := (List.finRange NSAMP).drop x.k.val

theorem Xform.remaining_eq_cons (x : Xform) : x.remaining = x.k :: (List.finRange NSAMP).drop (x.k.val + 1) := by
  rw [remaining, List.drop_eq_getElem_cons (by simp), List.getElem_finRange]
  rfl

theorem Xform.advance_of_lt {x : Xform} (h : x.k.val + 1 < NSAMP) : x.advance = { x with k := ⟨x.k.val + 1, h⟩ } :=
  dif_pos h

theorem Xform.advance_of_last {x : Xform} (h : x.k.val + 1 = NSAMP) : x.advance = { x with busy := false, k := 0 } :=
  dif_neg h.not_lt

theorem Xform.remaining_of_lt {x : Xform} (h : x.k.val + 1 < NSAMP) : x.remaining = [x.k] ++ x.advance.remaining := by
  rw [advance_of_lt h, remaining_eq_cons]
  rfl

theorem Xform.remaining_of_last {x : Xform} (h : x.k.val + 1 = NSAMP) : x.remaining = [x.k] := by
  rw [remaining_eq_cons, h, List.drop_of_length_le (by simp)]

/-- A packet with n samples still to be transformed, room in OUTQ for their points, and n XF turns. -/
structure Transforming (s : State) (n : Nat) (turns : List Stimulus) : Prop where
  noFault : s.modelFault = none
  busy : s.hw.xf.busy = true
  sample : s.hw.xf.k.val + n = NSAMP
  room : s.hw.outq.length + (s.hw.xf.points s.cfg.sine s.hw.xf.remaining).length ≤ s.cfg.outDepth
  stim : s.env.stim = List.replicate n .xf ++ turns

section
variable {s : State} {n : Nat} {turns : List Stimulus}

/-- One XF turn takes the current sample, whichever row it selects. -/
theorem Transforming.step (h : Transforming s (n + 1) turns) :
    ∃ t, Machine.step s = .next t ∧ Transformed s t [s.hw.xf.k] ∧ t.hw.xf = s.hw.xf.advance ∧ t.modelFault = none
      ∧ t.env.stim = List.replicate n .xf ++ turns := by
  have hroom (hacc : s.hw.xf.acc = true) : s.hw.outq.length < s.cfg.outDepth := by
    have hroom := h.room
    rw [Xform.remaining_eq_cons, Xform.points, List.filter_cons_of_pos (by rw [← Xform.acc_eq_accepts, hacc]),
      List.map_cons, List.length_cons] at hroom
    omega
  have hinstr := State.nextInstr_some (State.nextEvent_xf h.stim h.busy hroom)
  rw [decode_xfWord] at hinstr
  have hturn : s.endTurn.env.stim = List.replicate n .xf ++ turns := congrArg List.tail h.stim
  rw [step_of_instr h.noFault hinstr]
  cases hacc : s.hw.xf.acc with
  | true =>
    exact ⟨s.endTurn.pushPoint, exec_xfAccept h.busy hacc (hroom hacc),
      s.transformed_endTurn.trans (transformed_pushPoint hacc), rfl, h.noFault, hturn⟩
  | false =>
    exact ⟨s.endTurn.dropSample, exec_xfReject h.busy hacc,
      s.transformed_endTurn.trans (transformed_dropSample hacc), rfl, h.noFault, hturn⟩

/-- The packet goes on behind a sample that is not its last. -/
theorem Transforming.next {t : State} (h : Transforming s (n + 1 + 1) turns) (ht : Transformed s t [s.hw.xf.k])
    (hxf : t.hw.xf = s.hw.xf.advance) (hfault : t.modelFault = none)
    (hstim : t.env.stim = List.replicate (n + 1) .xf ++ turns) : Transforming t (n + 1) turns := by
  have hsample := h.sample
  have hlt : s.hw.xf.k.val + 1 < NSAMP := by omega
  have hadvance := Xform.advance_of_lt hlt
  exact {
    noFault := hfault
    busy := by rw [hxf, hadvance]; exact h.busy
    sample := by
      rw [hxf, hadvance]
      show s.hw.xf.k.val + 1 + (n + 1) = NSAMP
      omega
    room := by
      have hroom := h.room
      rw [Xform.remaining_of_lt hlt, ← hxf, Xform.points_append, List.length_append] at hroom
      rw [ht.outq, ht.latches.points_eq, ht.cfg, List.length_append]
      omega
    stim := hstim }

/-- The turns of a packet's remaining samples, by induction on their number. -/
theorem Transforming.run (h : Transforming s (n + 1) turns) :
    ∃ t, Sys2Proof.core.run (n + 1) s = .next t ∧ Transformed s t s.hw.xf.remaining
      ∧ t.hw.xf = { s.hw.xf with busy := false, k := 0 } ∧ t.env.stim = turns := by
  induction n generalizing s with
  | zero =>
    obtain ⟨t, hstep, ht, hxf, -, hstim⟩ := h.step
    exact ⟨t, run_succ_of_next 0 hstep, Xform.remaining_of_last h.sample ▸ ht,
      hxf.trans (Xform.advance_of_last h.sample), hstim⟩
  | succ n ih =>
    obtain ⟨t, hstep, ht, hxf, hfault, hstim⟩ := h.step
    obtain ⟨u, hrun, hu, huxf, hustim⟩ := ih (h.next ht hxf hfault hstim)
    have hlt : s.hw.xf.k.val + 1 < NSAMP := by
      have := h.sample
      omega
    refine ⟨u, (run_succ_of_next _ hstep).trans hrun, ?_, ?_, hustim⟩
    · rw [Xform.remaining_of_lt hlt, ← hxf]
      exact ht.trans hu
    · rw [huxf, hxf, Xform.advance_of_lt hlt]

end

/-- Of the samples ks, those that make no point are the rejected ones. -/
theorem Xform.countP_rejected (rom : Nat → Nat) (x : Xform) (ks : List SampleIx) :
    ks.countP (!x.accepts ·) = ks.length - (x.points rom ks).length := by
  have hsplit := List.length_eq_countP_add_countP x.accepts (l := ks)
  have hrejected : ks.countP (!x.accepts ·) = ks.countP (fun k => ¬x.accepts k = true) :=
    List.countP_congr fun k _ => by simp
  rw [Xform.points, List.length_map, ← List.countP_eq_length_filter]
  omega

/-- Settles O41: from sample 0 all twelve samples remain, and those that make no point are rejected. -/
theorem packetTakesTwelveXfSteps : Obligations.PacketTakesTwelveXfSteps := by
  intro s turns hfault hbusy hk hroom hstim
  have hall : s.hw.xf.remaining = List.finRange NSAMP := by rw [Xform.remaining, hk, List.drop_zero]
  have hs : Transforming s NSAMP turns :=
    ⟨hfault, hbusy, by rw [hk, Nat.zero_add], by rw [hall, Xform.points, List.length_map]; exact hroom, hstim⟩
  obtain ⟨t, hrun, ht, hxf, hstim'⟩ := hs.run
  rw [hall] at ht
  have hrejected : (List.finRange NSAMP).countP (!s.hw.xf.accepts ·) = NSAMP + s.hw.outq.length - t.hw.outq.length := by
    rw [Xform.countP_rejected s.cfg.sine, ht.outq, List.length_append, List.length_finRange]
    omega
  exact ⟨t, hrun, hxf, hstim', ht.outq, hrejected ▸ ht.cntRej, ht.others⟩

end Sys2Proof.Machine

/-!
PROOF. The BUS class (45_host_bus.md R220, R221): the word of an access selects the row of the register it names, and the
fields of a data word as numbers.
-/

namespace Sys2Proof

/-! ## The fields of a data word -/

theorem extractLsb'_eq_ofNat {n : Nat} (w : BitVec n) (start len : Nat) :
    w.extractLsb' start len = BitVec.ofNat len (w.toNat / 2 ^ start) := by
  rw [BitVec.extractLsb', Nat.shiftRight_eq_div_pow]

theorem extractLsb'_zero_eq_ofNat {n : Nat} (w : BitVec n) (len : Nat) : w.extractLsb' 0 len = BitVec.ofNat len w.toNat := by
  rw [extractLsb'_eq_ofNat, pow_zero, Nat.div_one]

/-! ## The words of the BUS class -/

section
variable {cfg : Config} {c e : Chan} {d : Word} {w : Nat}

/-- The number of a BUS word selects the row that the address decoder reads (30_encoding.md R102). -/
theorem rowOf_bus {we : Bool} {a : Addr} (hw : w = 0x1000 * we.toNat + a.toNat) :
    Machine.RowOf cfg w e d (if we then decodeWrite cfg a d else decodeRead cfg a) := by
  rw [Machine.RowOf, hw, ← toNat_busWord, BitVec.ofNat_toNat, BitVec.setWidth_eq]
  exact decode_busWord ..

theorem rowOf_read {r : BusReg} (hr : r.Present cfg) (hw : w = (regAddr r).toNat) : Machine.RowOf cfg w e d r.read := by
  rw [← decodeRead_of_some ((busTarget_eq_some_iff cfg _ r).2 ⟨hr, rfl⟩)]
  exact rowOf_bus (we := false) (by rw [hw, Bool.toNat_false]; omega)

theorem rowOf_write {r : BusReg} (hr : r.Present cfg) (hw : w = 0x1000 + (regAddr r).toNat) :
    Machine.RowOf cfg w e d (r.write d) := by
  rw [← decodeWrite_of_some d ((busTarget_eq_some_iff cfg _ r).2 ⟨hr, rfl⟩)]
  exact rowOf_bus (we := true) hw

/-- The registers of a channel that exists stand at eight words from 0x100 + 0x20 * c (10_state.md R28). -/
theorem rowOf_read_chan (hc : c.val < cfg.nch) {i : Nat} (hi : i < 8) (hw : w = 0x100 + 0x20 * c.val + 4 * i) :
    Machine.RowOf cfg w e d (chanReg c i).read :=
  rowOf_read ((present_chan cfg c hi).2 hc) (hw.trans (toNat_regAddr_chan c hi).symm)

theorem rowOf_write_chan (hc : c.val < cfg.nch) {i : Nat} (hi : i < 8) (hw : w = 0x1100 + 0x20 * c.val + 4 * i) :
    Machine.RowOf cfg w e d ((chanReg c i).write d) :=
  rowOf_write ((present_chan cfg c hi).2 hc) (by rw [toNat_regAddr_chan c hi]; omega)

theorem rowOf_rdUnmapped {a : Addr} (h : busTarget cfg a = none) : Machine.RowOf cfg a.toNat e d (.rdUnmapped a) := by
  rw [← decodeRead_of_none h]
  exact rowOf_bus (we := false) (by rw [Bool.toNat_false]; omega)

theorem rowOf_wrUnmapped {a : Addr} (h : busTarget cfg a = none) :
    Machine.RowOf cfg (0x1000 + a.toNat) e d (.wrUnmapped a d) := by
  rw [← decodeWrite_of_none d h]
  exact rowOf_bus (we := true) rfl

end

end Sys2Proof

/-!
PROOF. Bus reads (45_host_bus.md R222 to R236, R252): the word of each register as a number, and what a read of it answers.
-/

namespace Sys2Proof.Machine

/-! ## The registers' words as numbers (10_state.md R31 to R41) -/

theorem toNat_idWord {cfg : Config} (hlegal : cfg.Legal) :
    (idWord cfg).toNat = 0x544C * 2 ^ 16 + cfg.nch * 2 ^ 8 + cfg.pktLen := by
  obtain ⟨-, hnch, -, hlen, -⟩ := hlegal
  rw [MAX_NCH] at hnch
  simp only [idWord, toNat_append_eq_add, BitVec.toNat_ofNat]
  omega

theorem Ctrl.toNat_word (r : Ctrl) :
    r.word.toNat = r.diagEn.toNat * 8 + r.posEn.toNat * 4 + r.wrapFix.toNat * 2 + r.en.toNat := by
  simp only [Ctrl.word, toNat_append_eq_add, BitVec.toNat_ofBool, BitVec.toNat_ofNat]
  omega

theorem Block.toNat_filtDistWord (b : Block) : b.filtDistWord.toNat = b.maxDist.toNat * 2 ^ 16 + b.minDist.toNat :=
  toNat_append_eq_add ..

/-- Zeros in front of a word leave its number. -/
theorem toNat_zero_append {m n : Nat} (x : BitVec n) : (0#m ++ x).toNat = x.toNat := by
  rw [toNat_append_eq_add, BitVec.toNat_zero, Nat.zero_mul, Nat.zero_add]

theorem Channel.toNat_cfgWord (ch : Channel) : ch.cfgWord.toNat = ch.chEn.toNat * 2 ^ 8 + ch.devId.toNat := by
  simp only [Channel.cfgWord, toNat_append_eq_add, BitVec.toNat_ofBool, BitVec.toNat_ofNat]
  omega

theorem Channel.toNat_posWord (ch : Channel) : ch.posWord.toNat = ch.posY.toNat * 2 ^ 16 + ch.posX.toNat :=
  toNat_append_eq_add ..

theorem Channel.toNat_statWord (ch : Channel) :
    ch.statWord.toNat = ch.age.toNat * 2 ^ 16 + ch.cur.toNat * 2 ^ 8 + ch.st.toNat := by
  simp only [Channel.statWord, toNat_append_eq_add, BitVec.toNat_ofNat]
  omega

theorem toNat_ofNat_of_lt {n w : Nat} (h : n < 2 ^ w) : (BitVec.ofNat w n).toNat = n :=
  (BitVec.toNat_ofNat n w).trans (Nat.mod_eq_of_lt h)

/-- A field of STATUS that is shown only while the transform unit is busy (R39). -/
theorem toNat_shown (busy : Bool) {n w : Nat} (hn : n < 2 ^ w) :
    (if busy then BitVec.ofNat w n else 0#w).toNat = if busy then n else 0 := by
  cases busy with
  | false => exact BitVec.toNat_zero
  | true => exact toNat_ofNat_of_lt hn

theorem toNat_ofBool_decide (p : Prop) [Decidable p] : (BitVec.ofBool (decide p)).toNat = if p then 1 else 0 := by
  rw [BitVec.toNat_ofBool, Bool.toNat, Bool.cond_decide]

theorem Block.toNat_statusWord (b : Block) {outDepth : Nat} (hlen : b.outq.length ≤ 255) :
    (b.statusWord outDepth).toNat
      = (if b.xf.busy then b.xf.ch.val else 0) * 2 ^ 24 + (if b.xf.busy then b.xf.k.val else 0) * 2 ^ 20
        + b.sp.val * 2 ^ 16 + b.outq.length * 2 ^ 8 + (if b.outq.length = 0 then 1 else 0) * 2 ^ 2
        + (if b.outq.length = outDepth then 1 else 0) * 2 + b.xf.busy.toNat := by
  have hch : b.xf.ch.val < 2 ^ 3 := b.xf.ch.isLt
  have hk : b.xf.k.val < 2 ^ 4 := b.xf.k.isLt.trans (by decide)
  have hsp : (BitVec.ofNat 3 b.sp.val).toNat = b.sp.val := toNat_ofNat_of_lt b.sp.isLt
  have hcount : (BitVec.ofNat 8 b.outq.length).toNat = b.outq.length := toNat_ofNat_of_lt (by omega)
  have hempty : (BitVec.ofBool b.outEmpty).toNat = if b.outq.length = 0 then 1 else 0 := toNat_ofBool_decide _
  have hfull : (BitVec.ofBool (b.outFull outDepth)).toNat = if b.outq.length = outDepth then 1 else 0 :=
    toNat_ofBool_decide _
  simp only [Block.statusWord, toNat_append_eq_add, toNat_shown _ hch, toNat_shown _ hk, hsp, hcount, hempty, hfull,
    BitVec.toNat_ofBool, BitVec.toNat_ofNat]
  omega

/-! ## What a read answers -/

/-- The content of a register (10_state.md R31 to R42). -/
def State.regWord (s : State) : BusReg → Word
  | .id => idWord s.cfg
  | .ctrl => s.hw.ctrl.word
  | .status => s.hw.statusWord s.cfg.outDepth
  | .round => s.hw.round
  | .filtDist => s.hw.filtDistWord
  | .filtInt => s.hw.filtIntWord
  | .timeout => s.hw.timeoutWord
  | .chCfg c => (s.chan c).cfgWord
  | .chAng c => (s.chan c).angWord
  | .chPos c => (s.chan c).posWord
  | .chStat c => (s.chan c).statWord
  | .cntOk c => (s.chan c).cntOk
  | .cntCrc c => (s.chan c).cntCrc
  | .cntTmo c => (s.chan c).cntTmo
  | .cntRej c => (s.chan c).cntRej

/-- A read returns the register's content and changes no state of the block (45_host_bus.md R221). -/
theorem exec_read (s : State) (r : BusReg) : exec r.read s = .next (s.busReturn (s.regWord r)) := by
  cases r <;> rfl

theorem exec_read_of_toNat {s : State} {r : BusReg} {n : Nat} (hn : (s.regWord r).toNat = n) :
    exec r.read s = .next { s with env := { s.env with rdata := BitVec.ofNat 32 n } } ∧ n < 2 ^ 32 := by
  obtain rfl := hn
  refine ⟨?_, (s.regWord r).isLt⟩
  rw [exec_read, BitVec.ofNat_toNat, BitVec.setWidth_eq]
  rfl

/-! ## The obligations on bus reads -/

/-- Settles O13, register by register. -/
theorem globalReadsReturnRegisters : Obligations.GlobalReadsReturnRegisters := by
  intro s c d hlegal reads
  have read_global {r : BusReg} {a n : Nat} (hr : r.Present s.cfg) (ha : a = (regAddr r).toNat)
      (hn : (s.regWord r).toNat = n) : reads a r.read n := ⟨rowOf_read hr ha, exec_read_of_toNat hn⟩
  exact ⟨read_global (r := .id) trivial rfl (toNat_idWord hlegal),
    read_global (r := .ctrl) trivial rfl s.hw.ctrl.toNat_word,
    read_global (r := .round) trivial rfl rfl,
    read_global (r := .filtDist) trivial rfl s.hw.toNat_filtDistWord,
    read_global (r := .filtInt) trivial rfl (toNat_zero_append s.hw.minInt),
    read_global (r := .timeout) trivial rfl (toNat_zero_append s.hw.tmoRounds)⟩

/-- Settles O14: the bound of OUTQ makes its count fit the field. -/
theorem statusReadReturnsView : Obligations.StatusReadReturnsView := by
  intro s c d hroom hdepth
  exact ⟨rowOf_read (r := .status) trivial rfl, _, exec_read s .status, rfl,
    s.hw.toNat_statusWord (hroom.trans hdepth)⟩

/-- Settles O15: the eight registers of the channel in the order of their addresses. -/
theorem channelReadsReturnRegisters : Obligations.ChannelReadsReturnRegisters := by
  intro s c e d hc reads
  have read_chan (i : Nat) {a n : Nat} (hi : i < 8) (ha : a = 0x100 + 4 * i)
      (hn : (s.regWord (chanReg c i)).toNat = n) : reads a (chanReg c i).read n :=
    ⟨rowOf_read_chan hc hi (by omega), exec_read_of_toNat hn⟩
  exact ⟨read_chan 0 (by decide) rfl (s.chan c).toNat_cfgWord,
    read_chan 1 (by decide) rfl (toNat_zero_append (s.chan c).angOff),
    read_chan 2 (by decide) rfl (s.chan c).toNat_posWord,
    read_chan 3 (by decide) rfl (s.chan c).toNat_statWord,
    read_chan 4 (by decide) rfl rfl,
    read_chan 5 (by decide) rfl rfl,
    read_chan 6 (by decide) rfl rfl,
    read_chan 7 (by decide) rfl rfl⟩

end Sys2Proof.Machine

/-!
PROOF. Bus writes (45_host_bus.md R237 to R251): what each register takes of the data word, and when.
-/

namespace Sys2Proof.Machine

/-! ## Writes that the freeze guards (10_state.md R30) -/

/-- A write of CFG fields has its effect b while CTRL.EN = 0, and none while CTRL.EN = 1. -/
theorem exec_of_writeCfg {s : State} {i : Instr} {f : Block → Block} {b : Block}
    (hexec : exec i s = .next (s.writeCfg f)) (hb : f s.hw = b) :
    (s.hw.ctrl.en = false → exec i s = .next { s with hw := b }) ∧ (s.hw.ctrl.en = true → exec i s = .next s) := by
  obtain rfl := hb
  refine ⟨fun hen => ?_, fun hen => ?_⟩
  · rw [hexec, State.writeCfg_open f hen]
  · rw [hexec, State.writeCfg_frozen f hen]

/-- Settles O19: the fields are the low and the high bits of the data word. -/
theorem globalConfigWrites : Obligations.GlobalConfigWrites := by
  intro s e d writes
  refine ⟨⟨rowOf_write (r := .filtDist) trivial rfl, exec_of_writeCfg rfl ?_⟩,
    ⟨rowOf_write (r := .filtInt) trivial rfl, exec_of_writeCfg rfl ?_⟩,
    ⟨rowOf_write (r := .timeout) trivial rfl, exec_of_writeCfg rfl ?_⟩⟩
  · rw [extractLsb'_zero_eq_ofNat, extractLsb'_eq_ofNat]
  · rw [extractLsb'_zero_eq_ofNat]
  · rw [extractLsb'_zero_eq_ofNat]

/-- Settles O20: the block is `Block.setChan` of the written channel. -/
theorem channelConfigWrites : Obligations.ChannelConfigWrites := by
  intro s c e d hc writes
  refine ⟨⟨rowOf_write_chan (i := 1) hc (by decide) (by omega), exec_of_writeCfg rfl ?_⟩,
    ⟨rowOf_write_chan (i := 2) hc (by decide) (by omega), exec_of_writeCfg rfl ?_⟩⟩
  · rw [extractLsb'_zero_eq_ofNat]; rfl
  · rw [extractLsb'_zero_eq_ofNat, extractLsb'_eq_ofNat]; rfl

/-! ## CH_CFG (R244) -/

/-- The channel after a write of d to its CH_CFG. -/
def Channel.configure (ch : Channel) (d : Word) : Channel :=
  { (if ch.chEn && !d.getLsbD 8 then ch.toSearch else ch) with devId := d.extractLsb' 0 8, chEn := d.getLsbD 8 }

section
variable {s : State} {c : Chan} {d : Word}

theorem exec_wrChCfg (hen : s.hw.ctrl.en = false) :
    exec (.wrChCfg c d) s = .next (s.setChan c ((s.chan c).configure d)) :=
  congrArg _ (State.writeCfg_open _ hen)

variable {ch : Channel}

theorem Channel.toNat_configure_devId : (ch.configure d).devId.toNat = d.toNat % 256 := by
  show (d.extractLsb' 0 8).toNat = d.toNat % 2 ^ 8
  rw [toNat_extractLsb', pow_zero, Nat.div_one]

theorem Channel.toNat_configure_chEn : (ch.configure d).chEn.toNat = d.toNat / 256 % 2 := toNat_getLsbD d 8

theorem Channel.configure_cleared (hen : ch.chEn = true) (hd : d.getLsbD 8 = false) :
    ch.configure d = { ch.toSearch with devId := d.extractLsb' 0 8, chEn := false } := by
  have hclear : (ch.chEn && !d.getLsbD 8) = true := by rw [hen, hd]; rfl
  rw [Channel.configure, if_pos hclear, hd]

theorem Channel.configure_not_cleared (h : ¬(ch.chEn = true ∧ d.getLsbD 8 = false)) :
    ch.configure d = { ch with devId := d.extractLsb' 0 8, chEn := d.getLsbD 8 } := by
  have hkeep : ¬(ch.chEn && !d.getLsbD 8) = true := by simpa using h
  rw [Channel.configure, if_neg hkeep]

end

/-- Settles O21: the channel is `Channel.configure`, in SEARCH where the write cleared CH_EN. -/
theorem channelEnableWrite : Obligations.ChannelEnableWrite := by
  intro s c o d hc
  have hbit : d.getLsbD 8 = false ↔ d.toNat / 256 % 2 = 0 :=
    Bool.toNat_eq_zero.symm.trans (by rw [toNat_getLsbD]; rfl)
  refine ⟨rowOf_write_chan (i := 0) hc (by decide) rfl, (exec_of_writeCfg rfl rfl).2, fun hen =>
    ⟨_, exec_wrChCfg hen, rfl, fun e he => State.chan_setChan_other _ _ he, ?_⟩⟩
  rw [State.chan_setChan_same, ← hbit]
  exact ⟨Channel.toNat_configure_devId, Channel.toNat_configure_chEn,
    fun ⟨hchen, hd⟩ => Channel.configure_cleared hchen hd, Channel.configure_not_cleared⟩

/-! ## Writes at any time -/

/-- Settles O17: these registers are views of other state. -/
theorem readOnlyWritesChangeNothing : Obligations.ReadOnlyWritesChangeNothing := by
  intro s c e d hc ignored
  exact ⟨⟨rowOf_write (r := .id) trivial rfl, rfl⟩, ⟨rowOf_write (r := .status) trivial rfl, rfl⟩,
    ⟨rowOf_write (r := .round) trivial rfl, rfl⟩, ⟨rowOf_write_chan (i := 3) hc (by decide) (by omega), rfl⟩⟩

/-- CTRL after a write of d (R238). -/
def Ctrl.written (old : Ctrl) (d : Word) : Ctrl :=
  { en := d.getLsbD 0
    wrapFix := if old.en then old.wrapFix else d.getLsbD 1
    posEn := if old.en then old.posEn else d.getLsbD 2
    diagEn := d.getLsbD 3 }

theorem exec_wrCtrl (s : State) (d : Word) :
    exec (.wrCtrl d) s = .next { s with hw := { s.hw with ctrl := s.hw.ctrl.written d } } := rfl

/-- Settles O18: the guarded fields by CTRL.EN before the write. -/
theorem ctrlWriteRespectsFreeze : Obligations.CtrlWriteRespectsFreeze := by
  intro s e d
  refine ⟨rowOf_write (r := .ctrl) trivial rfl, _, exec_wrCtrl s d, rfl, ?en, toNat_getLsbD d 3, fun hen => ?taken,
    fun hen => ?kept⟩
  case en => exact (toNat_getLsbD d 0).trans (by rw [pow_zero, Nat.div_one])
  case taken =>
    simp only [Ctrl.written, hen, Bool.false_eq_true, if_false]
    exact ⟨toNat_getLsbD d 1, toNat_getLsbD d 2⟩
  case kept => simp [Ctrl.written, hen]

/-- Settles O22, counter by counter. -/
theorem counterWritesSetCounters : Obligations.CounterWritesSetCounters := by
  intro s c e d hc writes
  exact ⟨⟨rowOf_write_chan (i := 4) hc (by decide) (by omega), rfl⟩,
    ⟨rowOf_write_chan (i := 5) hc (by decide) (by omega), rfl⟩,
    ⟨rowOf_write_chan (i := 6) hc (by decide) (by omega), rfl⟩,
    ⟨rowOf_write_chan (i := 7) hc (by decide) (by omega), rfl⟩⟩

end Sys2Proof.Machine

/-!
PROOF. Unmapped and misaligned accesses (45_host_bus.md R252, R253): their addresses are those of no register.
-/

namespace Sys2Proof.Machine

/-- The address classes of R252 hold no register. -/
theorem busTarget_eq_none_of_class {cfg : Config} (hlegal : cfg.Legal) {a : Addr}
    (h : a.toNat % 4 ≠ 0 ∨ a.toNat = 0x01C ∨ (0x020 ≤ a.toNat ∧ a.toNat ≤ 0x0FF)
      ∨ (0x100 + 0x20 * cfg.nch ≤ a.toNat ∧ a.toNat < 0x200) ∨ 0x200 ≤ a.toNat) : busTarget cfg a = none := by
  rw [busTarget_eq_none_iff hlegal, ← Bool.not_eq_true, mapped_iff_toNat]
  obtain ⟨-, hnch, -⟩ := hlegal
  rw [MAX_NCH] at hnch
  rintro (⟨i, hi, haddr⟩ | ⟨c, hc, i, hi, haddr⟩)
  · omega
  · omega

/-- Settles O16: no class names a register, and the two rows of no register have no effect on the block. -/
theorem unmappedAccessesDoNothing : Obligations.UnmappedAccessesDoNothing := by
  intro a d c s hlegal
  refine ⟨rfl, rfl, fun hclass => ?_⟩
  have hnone := busTarget_eq_none_of_class hlegal hclass
  exact ⟨rowOf_rdUnmapped hnone, rowOf_wrUnmapped hnone⟩

end Sys2Proof.Machine

/-!
PROOF. Progress (45_host_bus.md R220, 60_exceptions.md R261, R265, 70_reset_and_hazards.md R290): every instruction answers
a next state, but RX_DATA with its cursor past the packet buffer.
-/

namespace Sys2Proof.Machine

section
variable {s : State} {i : Instr} {c : Chan}

/-- The host's and the consumer's rows, RESET and the reserved rows answer a next state, and so do the scheduler's and the
transform unit's whether the state forms their step or not (log 2). -/
theorem exec_next_of_not_rx (hrow : ∀ c, ¬IsRxOf c i) : ∃ t, exec i s = .next t := by
  have next_of_guarded {guard : Prop} [Decidable guard] {t : State} {o : Host.Outcome State Fault Refusal}
      (ho : o = if guard then .next t else .next s) : ∃ t, o = .next t := by
    split at ho
    next => exact ⟨_, ho⟩
    next => exact ⟨_, ho⟩
  cases i with
  | rxDrain c | rxMarker c | rxSkip c | rxData c | rxCheckOk c | rxCheckBad c => exact absurd rfl (hrow c)
  | visitOff | visitIdle | visitDispatch | xfReject | xfAccept => exact next_of_guarded rfl
  | visitAge =>
    by_cases hforms : s.visitForms true ACCUM = true
    · cases hage : timedOut s.hw.tmoRounds (nextAge (s.chan s.hw.sp).age) with
      | false => exact ⟨_, exec_visitAge_of_not_timedOut hforms hage⟩
      | true => exact ⟨_, exec_visitAge_of_timedOut hforms hage⟩
    · exact ⟨s, if_neg hforms⟩
  | outPop => exact ⟨_, exec_outPop s⟩
  | _ => exact ⟨_, rfl⟩

/-- RX_DATA is formed while its cursor is past the end of the packet buffer, which no reachable state allows (10_state.md
R23; log 8). -/
def CursorOutside (s : State) (c : Chan) (crcm : Bool) (b : Byte) : Prop :=
  s.formsRx (.rxData c crcm b) = true ∧ s.cfg.pktLen ≤ (s.chan c).cur.toNat

theorem cursorOutside_iff (crcm : Bool) (b : Byte) :
    CursorOutside s c crcm b ↔
      c.val < s.cfg.nch ∧ s.hw.ctrl.en = true ∧ s.env.inq[c].head? = some b ∧ (s.chan c).chEn = true
      ∧ (s.chan c).st = ACCUM ∧ s.cfg.pktLen ≤ (s.chan c).cur.toNat ∧ (s.chan c).cur.toNat ≠ s.cfg.pktLen - 1
      ∧ crcm = decide (b = (s.chan c).crc) := by
  have hlast : (s.chan c).atLast s.cfg.pktLen = false ↔ (s.chan c).cur.toNat ≠ s.cfg.pktLen - 1 := decide_eq_false_iff_not
  have hforms : s.formsRx (.rxData c crcm b) = s.rxForms c true ACCUM false crcm b := rfl
  rw [CursorOutside, hforms, State.rxForms_iff, hlast]
  constructor
  · rintro ⟨⟨hc, hen, hhead, -, hchen, hst, hcur, hcrc⟩, hout⟩
    exact ⟨hc, hen, hhead, hchen, hst, hout, hcur, hcrc.symm⟩
  · rintro ⟨hc, hen, hhead, hchen, hst, hout, hcur, hcrc⟩
    exact ⟨⟨hc, hen, hhead, .inr (by decide), hchen, hst, hcur, hcrc.symm⟩, hout⟩

theorem exec_rxData_of_outside {crcm : Bool} {b : Byte} (h : CursorOutside s c crcm b) :
    exec (.rxData c crcm b) s = .fault (.bufferAddress c (s.chan c).cur.toNat) := by
  obtain ⟨hformed, hout⟩ := h
  exact (if_pos hformed).trans (if_neg (Nat.not_lt.2 hout))

/-- An RX row answers a next state, taken (R130) or not formed (log 2), but for the one case of log 8. -/
theorem exec_next_of_rx (hrow : IsRxOf c i) (hin : ∀ crcm b, i = .rxData c crcm b → ¬CursorOutside s c crcm b) :
    ∃ t, exec i s = .next t := by
  by_cases hformed : s.formsRx i = true
  · refine ⟨_, exec_rx_of_formed hrow hformed fun crcm b hi => ?_⟩
    subst hi
    exact not_le.1 fun hout => hin crcm b rfl ⟨hformed, hout⟩
  · exact ⟨s, exec_rx_of_not_formed hrow hformed⟩

end

/-- Settles O12: by whether the row is one of the RX class, and there whether its cursor is outside the buffer. -/
theorem execAnswersNextBarBufferAddress : Obligations.ExecAnswersNextBarBufferAddress := by
  intro i s outside
  have outside_iff (c : Chan) (crcm : Bool) (b : Byte) :
      outside c crcm b ↔ i = .rxData c crcm b ∧ CursorOutside s c crcm b := and_congr_right' (cursorOutside_iff crcm b).symm
  refine ⟨fun hin => ?_, fun c crcm b hout => ?_⟩
  · by_cases hrow : ∃ c, IsRxOf c i
    · obtain ⟨c, hrow⟩ := hrow
      exact exec_next_of_rx hrow fun crcm b hi hout => hin c crcm b ((outside_iff ..).2 ⟨hi, hout⟩)
    · exact exec_next_of_not_rx (not_exists.1 hrow)
  · obtain ⟨rfl, hcursor⟩ := (outside_iff ..).1 hout
    exact exec_rxData_of_outside hcursor

end Sys2Proof.Machine

/-!
PROOF. Errors and counters (60_exceptions.md): no step from a state that meets the invariant faults (R265), what moves a
counter (R266), and the accounting identity (R268), whose two sides each row changes by the same number of samples.
-/

namespace Sys2Proof.Machine

/-! ## No fatal path (R265) -/

/-- A cursor past the packet buffer breaks the invariant of its channel (10_state.md R23). -/
theorem not_cursorOutside_of_inv {s : State} {c : Chan} {crcm : Bool} {b : Byte} (hinv : s.Inv) :
    ¬CursorOutside s c crcm b := by
  intro hout
  obtain ⟨⟨-, -, hlen, -⟩, hchans, -⟩ := hinv
  obtain ⟨-, -, -, -, hst, hcur, -⟩ := (cursorOutside_iff crcm b).mp hout
  obtain ⟨-, -, hle, -⟩ := (hchans c).accum hst
  rw [State.chan_eq] at hcur
  omega

theorem exec_next_of_inv {s : State} (hinv : s.Inv) (i : Instr) : ∃ t, exec i s = .next t := by
  by_cases hrow : ∃ c, IsRxOf c i
  · obtain ⟨c, hrow⟩ := hrow
    exact exec_next_of_rx hrow fun _ _ _ => not_cursorOutside_of_inv hinv
  · exact exec_next_of_not_rx (not_exists.mp hrow)

/-- Settles O11: the turn passes, or it runs an instruction, and using up the turn keeps the invariant. -/
theorem noFatalPath : Obligations.NoFatalPath := by
  intro s hinv hfault
  cases hi : s.nextInstr with
  | none => exact ⟨s.noStep, step_of_none hfault hi⟩
  | some i =>
    rw [step_of_instr hfault hi]
    exact exec_next_of_inv (s := s.endTurn) hinv i

/-! ## The counters without diagnostics (R266) -/

/-- A channel whose four counters are those of another. -/
def Channel.SameCounters (ch ch' : Channel) : Prop :=
  ch'.cntOk = ch.cntOk ∧ ch'.cntCrc = ch.cntCrc ∧ ch'.cntTmo = ch.cntTmo ∧ ch'.cntRej = ch.cntRej

theorem Channel.sameCounters_rfl {ch : Channel} : ch.SameCounters ch := ⟨rfl, rfl, rfl, rfl⟩

/-- With DIAG_EN = 0 a row that counts leaves its counter as it was; what is left are the writes of a counter. -/
theorem ChannelStep.sameCounters {s : State} {i : Instr} {c : Chan} {ch : Channel} (h : ChannelStep s i c ch)
    (hdiag : s.hw.ctrl.diagEn = false)
    (hwrite : ∀ c d, i ≠ .wrCntOk c d ∧ i ≠ .wrCntCrc c d ∧ i ≠ .wrCntTmo c d ∧ i ≠ .wrCntRej c d) :
    (s.chan c).SameCounters ch := by
  have hcount (n : Word) : countUp s.hw.ctrl.diagEn n = n := by rw [hdiag, countUp_false]
  cases h with
  | wrCntOk _ d | wrCntCrc _ d | wrCntTmo _ d | wrCntRej _ d =>
    obtain ⟨hok, hcrc, htmo, hrej⟩ := hwrite c d
    contradiction
  | rxCheckOk => exact ⟨hcount _, rfl, rfl, rfl⟩
  | rxCheckBad => exact ⟨rfl, hcount _, rfl, rfl⟩
  | timeout => exact ⟨rfl, rfl, hcount _, rfl⟩
  | xfReject => exact ⟨rfl, rfl, rfl, hcount _⟩
  | _ => exact Channel.sameCounters_rfl

/-- Settles O46: each channel is as it was or changed by a row of `ChannelStep`. -/
theorem countersHoldWithoutDiagnostics : Obligations.CountersHoldWithoutDiagnostics := by
  intro i s t hexec hdiag hreset hwrite c
  obtain hsame | hch := (exec_effect hexec).hw.chan_cases_of_ne_reset hreset c
  · rw [hsame]; exact Channel.sameCounters_rfl
  · exact hch.sameCounters hdiag hwrite

/-! ## The two sides of the accounting identity (R268) -/

/-- Twelve samples for each validated packet of the channel that has been dispatched. -/
def Channel.samplesDispatched (ch : Channel) : Word := 12#32 * (ch.cntOk - if ch.st = READY then 1#32 else 0#32)

/-- The samples of channel c that the transform unit still has to take. -/
def Xform.samplesLeft (x : Xform) (c : Chan) : Word :=
  if x.busy = true ∧ x.ch = c then BitVec.ofNat 32 (12 - x.k.val) else 0#32

/-- The records of channel c in a list. -/
def pointsIn (c : Chan) (records : List Record) : Nat :=
  (records.filter fun r => (r.w1.extractLsb' 20 3).toNat == c.val).length

/-- The accounting identity of a block that has delivered these records. -/
def Block.Accounted (b : Block) (delivered : List Record) : Prop :=
  ∀ c : Chan, (b.chan c).samplesDispatched
    = BitVec.ofNat 32 (pointsIn c (delivered ++ b.outq)) + (b.chan c).cntRej + b.xf.samplesLeft c

theorem accounted_iff (s : State) : Accounted s ↔ s.hw.Accounted s.env.delivered := Iff.rfl

/-! ### What moves each of them -/

section
variable {ch : Channel} {x : Xform} {c : Chan}

theorem Channel.samplesDispatched_of_ready (hst : ch.st = READY) :
    ch.samplesDispatched = 12#32 * (ch.cntOk - 1#32) := by rw [samplesDispatched, if_pos hst]

theorem Channel.samplesDispatched_of_ne_ready (hst : ch.st ≠ READY) : ch.samplesDispatched = 12#32 * ch.cntOk := by
  rw [samplesDispatched, if_neg hst, BitVec.sub_zero]

/-- A dispatch (44_scheduler.md R191) takes the packet that was READY. -/
theorem Channel.samplesDispatched_toSearch (hst : ch.st = READY) :
    ch.toSearch.samplesDispatched = ch.samplesDispatched + 12#32 := by
  rw [samplesDispatched_of_ready hst, samplesDispatched_of_ne_ready (by simp [SEARCH, READY]), toSearch_cntOk]
  bv_omega

theorem Xform.samplesLeft_of_idle (hidle : x.busy = false) : x.samplesLeft c = 0#32 := by simp [samplesLeft, hidle]

theorem Block.samplesLeft_latch (b : Block) (d : Chan) :
    (b.latch d).samplesLeft c = if d = c then 12#32 else 0#32 := by simp [Xform.samplesLeft]

/-- The sample advance (44_scheduler.md R202) takes one sample of the latched channel. -/
theorem Xform.samplesLeft_eq_advance (hbusy : x.busy = true) :
    x.samplesLeft c = (if x.ch = c then 1#32 else 0#32) + x.advance.samplesLeft c := by
  have hk : x.k.val < 12 := x.k.isLt
  by_cases hc : x.ch = c
  · obtain hlast | hmore : x.k.val = 11 ∨ x.k.val + 1 < 12 := by omega
    · simp [samplesLeft, advance_of_last (congrArg (· + 1) hlast), hbusy, hc, hlast]
    · have hleft : 12 - x.k.val = 1 + (12 - (x.k.val + 1)) := by omega
      simp only [samplesLeft, advance_of_lt hmore, hbusy, hc, true_and, if_true]
      rw [hleft, BitVec.ofNat_add]
  · have hother : x.advance.ch ≠ c := by rwa [x.sameLatches_advance.ch_eq]
    simp [samplesLeft, hc, hother]

theorem pointsIn_append (c : Chan) (l l' : List Record) : pointsIn c (l ++ l') = pointsIn c l + pointsIn c l' := by
  simp [pointsIn]

/-- A point carries the latched channel (30_encoding.md R100). -/
theorem pointsIn_point (rom : Nat → Nat) (x : Xform) (k : SampleIx) (c : Chan) :
    pointsIn c [x.point rom k] = if x.ch = c then 1 else 0 := by
  have hfield : ((x.point rom k).w1.extractLsb' 20 3).toNat = x.ch.val := by
    obtain ⟨-, hch, -⟩ := w1_fields (BitVec.ofNat 3 x.ch.val) (BitVec.ofNat 4 k.val) (phase (x.totalAngle k))
    show ((0#9 ++ BitVec.ofNat 3 x.ch.val ++ BitVec.ofNat 4 k.val ++ phase (x.totalAngle k)).extractLsb' 20 3).toNat = _
    rw [hch]
    exact toNat_ofNat_of_lt x.ch.isLt
  rw [pointsIn, List.filter_cons, hfield]
  by_cases hc : x.ch = c
  · simp [hc]
  · simp [hc, Fin.val_ne_of_ne hc]

end

/-! ## The rows keep the identity -/

/-- The rows of which R268 speaks: not RESET, no write of CNT_OK or CNT_REJ, and none that clears a CH_EN. -/
structure Accountable (s : State) (i : Instr) : Prop where
  reset : i ≠ .reset
  counter : ∀ c d, i ≠ .wrCntOk c d ∧ i ≠ .wrCntRej c d
  enable : ∀ c d, i = .wrChCfg c d → s.hw.ctrl.en = true ∨ d.getLsbD 8 = true

/-- A channel with as many dispatched samples and rejections as another. -/
def Channel.SameAccount (ch ch' : Channel) : Prop :=
  ch'.samplesDispatched = ch.samplesDispatched ∧ ch'.cntRej = ch.cntRej

/-- A row that moves no packet out of READY or into it leaves the account alone. -/
theorem Channel.sameAccount_of_ne_ready {ch ch' : Channel} (hst : ch.st ≠ READY) (hst' : ch'.st ≠ READY)
    (hok : ch'.cntOk = ch.cntOk) (hrej : ch'.cntRej = ch.cntRej) : ch.SameAccount ch' :=
  ⟨by rw [samplesDispatched_of_ne_ready hst, samplesDispatched_of_ne_ready hst', hok], hrej⟩

/-- A packet that is validated and counted (41_frame_decoder.md R133) waits for its dispatch. -/
theorem Channel.sameAccount_validated {ch ch' : Channel} (hst : ch.st ≠ READY) (hst' : ch'.st = READY)
    (hok : ch'.cntOk = ch.cntOk + 1#32) (hrej : ch'.cntRej = ch.cntRej) : ch.SameAccount ch' :=
  ⟨by rw [samplesDispatched_of_ne_ready hst, samplesDispatched_of_ready hst', hok, BitVec.add_sub_cancel], hrej⟩

section
variable {s : State} {i : Instr} {b : Block} {c : Chan} {ch : Channel} {delivered : List Record}

/-- Every row but a dispatch and a rejection leaves the account of the channel it changes alone. -/
theorem ChannelStep.sameAccount (h : ChannelStep s i c ch) (hrow : Accountable s i) (hdiag : s.hw.ctrl.diagEn = true)
    (hdispatch : i ≠ .visitDispatch) (hreject : i ≠ .xfReject) : (s.chan c).SameAccount ch := by
  have searching {st : BitVec 2} (hst : st = SEARCH) : st ≠ READY := by simp [hst, SEARCH, READY]
  have accumulating {st : BitVec 2} (hst : st = ACCUM) : st ≠ READY := by simp [hst, ACCUM, READY]
  cases h with
  | wrChCfg | wrChAng | wrChPos | wrCntCrc | wrCntTmo | rxData | aged => exact ⟨rfl, rfl⟩
  | wrChCfgOff c d hen hclear =>
    obtain hen' | hset := hrow.enable c d rfl
    · rw [hen] at hen'; cases hen'
    · rw [hset, Bool.not_true, Bool.and_false] at hclear; cases hclear
  | wrCntOk c d => exact absurd rfl (hrow.counter c d).1
  | wrCntRej c d => exact absurd rfl (hrow.counter c d).2
  | rxMarker _ _ _ hforms =>
    obtain ⟨-, -, -, -, -, hst, -⟩ := (s.rxForms_iff ..).mp hforms
    exact Channel.sameAccount_of_ne_ready (searching hst) (accumulating rfl) rfl rfl
  | rxCheckOk _ _ hforms =>
    obtain ⟨-, -, -, -, -, hst, -⟩ := (s.rxForms_iff ..).mp hforms
    exact Channel.sameAccount_validated (accumulating hst) rfl (by rw [hdiag, countUp_true]) rfl
  | rxCheckBad _ _ hforms =>
    obtain ⟨-, -, -, -, -, hst, -⟩ := (s.rxForms_iff ..).mp hforms
    exact Channel.sameAccount_of_ne_ready (accumulating hst) (searching rfl) rfl rfl
  | timeout hforms =>
    obtain ⟨-, -, -, hst⟩ := (s.visitForms_iff ..).mp hforms
    exact Channel.sameAccount_of_ne_ready (accumulating hst) (searching rfl) rfl rfl
  | dispatch => exact absurd rfl hdispatch
  | xfReject => exact absurd rfl hreject

/-- One channel replaced by one with the same account. -/
theorem Block.Accounted.setChan (h : b.Accounted delivered) (hch : (b.chan c).SameAccount ch) :
    (b.setChan c ch).Accounted delivered := by
  intro d
  obtain ⟨hdispatched, hrej⟩ := hch
  obtain hsame | ⟨rfl, hset⟩ := b.chan_setChan_cases c d ch
  · rw [hsame]; exact h d
  · rw [hset, hdispatched, hrej]; exact h d

/-- VISIT_DISPATCH (44_scheduler.md R191): the twelve samples of a READY packet are now the transform unit's to take. -/
theorem Block.Accounted.dispatch (h : b.Accounted delivered) (hidle : b.xf.busy = false)
    (hst : (b.chan c).st = READY) : ((b.setChan c (b.chan c).toSearch).setXf (b.latch c)).Accounted delivered := by
  intro d
  have hd := h d
  rw [Xform.samplesLeft_of_idle hidle, BitVec.add_zero] at hd
  rw [Block.chan_setXf, Block.setXf_outq, Block.setChan_outq, Block.setXf_xf, Block.samplesLeft_latch]
  by_cases hcd : c = d
  · subst hcd
    rw [Block.chan_setChan_same, Channel.samplesDispatched_toSearch hst, Channel.toSearch_cntRej, hd, if_pos rfl]
  · rw [Block.chan_setChan_other _ _ (Ne.symm hcd), hd, if_neg hcd, BitVec.add_zero]

/-- XF_REJECT (44_scheduler.md R204): the sample taken is a rejection. -/
theorem Block.Accounted.reject (h : b.Accounted delivered) (hbusy : b.xf.busy = true) :
    ((b.setChan b.xf.ch ((b.chan b.xf.ch).countRejection true)).setXf b.xf.advance).Accounted delivered := by
  intro d
  have hd := h d
  rw [Xform.samplesLeft_eq_advance hbusy] at hd
  rw [Block.chan_setXf, Block.setXf_outq, Block.setChan_outq, Block.setXf_xf]
  by_cases hcd : b.xf.ch = d
  · rw [if_pos hcd, ← BitVec.add_assoc] at hd
    rw [← hcd] at hd ⊢
    rw [Block.chan_setChan_same, Channel.countRejection, countUp_true, ← BitVec.add_assoc]
    exact hd
  · rw [if_neg hcd, BitVec.zero_add] at hd
    rw [Block.chan_setChan_other _ _ (Ne.symm hcd)]
    exact hd

/-- XF_ACCEPT (44_scheduler.md R203): the sample taken is a point in OUTQ. -/
theorem Block.Accounted.accept (h : b.Accounted delivered) (hbusy : b.xf.busy = true) (rom : Nat → Nat) :
    ((b.push (b.xf.point rom b.xf.k)).setXf b.xf.advance).Accounted delivered := by
  intro d
  have hd := h d
  rw [Xform.samplesLeft_eq_advance hbusy] at hd
  rw [Block.chan_setXf, Block.chan_push, Block.setXf_outq, Block.push_outq, Block.setXf_xf, ← List.append_assoc,
    pointsIn_append, pointsIn_point, BitVec.ofNat_add, hd]
  split <;> bv_omega

/-- OUT_POP (44_scheduler.md R205): the head of OUTQ becomes a delivered record. -/
theorem Block.Accounted.pop (h : b.Accounted delivered) :
    Block.Accounted { b with outq := b.outq.tail } (delivered ++ b.outq.take 1) := by
  have hrecords : delivered ++ b.outq.take 1 ++ b.outq.tail = delivered ++ b.outq := by
    rw [List.append_assoc, ← List.drop_one, List.take_append_drop]
  intro d
  rw [hrecords]
  exact h d

/-- Every change of the block but that of a pop, which also delivers, keeps its accounts. -/
theorem BlockStep.accounted (h : BlockStep s i b) (hrow : Accountable s i) (hdiag : s.hw.ctrl.diagEn = true)
    (hpop : i ≠ .outPop) (hs : s.hw.Accounted delivered) : b.Accounted delivered := by
  cases h with
  | keeps | wrCtrl | wrFiltDist | wrFiltInt | wrTimeout | visitIdle | visitOff => exact hs
  | channel hclass hch =>
    have hdispatch : i ≠ .visitDispatch := by rintro rfl; simp [Instr.classes] at hclass
    have hreject : i ≠ .xfReject := by rintro rfl; simp [Instr.classes] at hclass
    exact hs.setChan (hch.sameAccount hrow hdiag hdispatch hreject)
  | visitAge hch => exact hs.setChan (hch.sameAccount hrow hdiag nofun nofun)
  | visitDispatch hforms =>
    obtain ⟨-, hidle, -, hst⟩ := (s.visitForms_iff ..).mp hforms
    exact hs.dispatch hidle hst
  | xfReject hforms hch =>
    obtain ⟨hbusy, -⟩ := (s.xfForms_iff false).mp hforms
    cases hch
    rw [hdiag]
    exact hs.reject hbusy
  | xfAccept hforms =>
    obtain ⟨hbusy, -⟩ := (s.xfForms_iff true).mp hforms
    exact hs.accept hbusy _
  | outPop => exact absurd rfl hpop
  | reset => exact absurd rfl hrow.reset

theorem exec_keeps_accounted {t : State} (hexec : exec i s = .next t) (hrow : Accountable s i)
    (hdiag : s.hw.ctrl.diagEn = true) (hs : Accounted s) : Accounted t := by
  by_cases hpop : i = .outPop
  · subst hpop
    obtain rfl := Host.Outcome.next.inj ((exec_outPop s).symm.trans hexec)
    exact Block.Accounted.pop ((accounted_iff s).mp hs)
  · obtain ⟨-, hb, hdelivered⟩ := exec_effect hexec
    rw [accounted_iff, hdelivered hpop]
    exact hb.accounted hrow hdiag hpop hs

end

/-- Settles O50: a step runs an instruction that keeps the identity, or it passes and moves nothing of the identity. -/
theorem stepKeepsAccounting : Obligations.StepKeepsAccounting := by
  intro s t hs hstep hdiag hreset hcounter henable
  obtain ⟨-, ⟨i, hi, hexec⟩ | ⟨-, rfl⟩⟩ := step_next_cases hstep
  · have hrow : Accountable s.endTurn i :=
      ⟨fun h => hreset (h ▸ hi), fun c d => ⟨fun h => (hcounter c d).1 (h ▸ hi), fun h => (hcounter c d).2 (h ▸ hi)⟩,
        fun c d h => henable c d (h ▸ hi)⟩
    exact exec_keeps_accounted hexec hrow hdiag hs
  · rw [accounted_iff, s.noStep_hw, s.noStep_delivered]
    exact hs

end Sys2Proof.Machine

/-!
PROOF. RESET (70_reset_and_hazards.md): the values it gives (R290), the reset state of a configuration against the invariant
and the accounting identity (R293, 60_exceptions.md R268), and the block at rest until CTRL is written (R292).
-/

namespace Sys2Proof.Machine

/-! ## What RESET gives (R290) -/

/-- RESET puts the block into its reset state and leaves what stands beside it. -/
theorem exec_reset (s : State) : exec .reset s = .next { s with hw := Block.reset } := rfl

theorem Channel.reset_devId_toNat (c : Chan) : (Channel.reset c).devId.toNat = c.val :=
  toNat_ofNat_of_lt (lt_trans c.isLt (by decide))

/-- The placeholder offset is below a whole turn, so it fits its 16 bits (10_state.md R44). -/
theorem Channel.reset_angOff_toNat (c : Chan) : (Channel.reset c).angOff.toNat = 9000 * c.val % 36000 :=
  toNat_ofNat_of_lt (lt_trans (Nat.mod_lt _ (by decide)) (by decide))

/-- Settles O47: every field is that of `Block.reset`, and of `Channel.reset` for the channels. -/
theorem resetGivesResetValues : Obligations.ResetGivesResetValues := by
  intro s
  refine ⟨decode_reset s.cfg 0 0#32 rfl, _, exec_reset s, rfl, rfl, fun c => ?channel, ?block⟩
  case channel =>
    rw [State.chan_eq, Block.chan_reset]
    exact ⟨rfl, rfl, rfl, rfl, Channel.reset_devId_toNat c, rfl, Channel.reset_angOff_toNat c,
      rfl, rfl, rfl, rfl, rfl, rfl⟩
  case block => exact ⟨rfl, rfl, rfl, rfl, rfl, rfl, rfl, rfl, rfl, rfl, rfl, rfl, rfl⟩

/-! ## The reset state (R293) -/

theorem hardware_legal : hardware.Legal := by decide

theorem Block.inv_reset {cfg : Config} (hlegal : cfg.Legal) : Block.reset.Inv cfg := by
  refine ⟨fun c => ?chans, ?sp, nofun, ?depth, nofun, fun _ => rfl⟩
  case chans => rw [Block.chan_reset]; exact Channel.inv_reset cfg c
  case sp => exact hlegal.1
  case depth => exact Nat.zero_le _

/-- After reset nothing has been validated, delivered, queued, rejected or latched. -/
theorem Block.accounted_reset : Block.reset.Accounted [] := by
  intro c
  have hdispatched : (Channel.reset c).samplesDispatched = 0#32 :=
    Channel.samplesDispatched_of_ne_ready (by simp [Channel.reset, SEARCH, READY])
  have hleft : Block.reset.xf.samplesLeft c = 0#32 := Xform.samplesLeft_of_idle rfl
  rw [Block.chan_reset, hdispatched, hleft]
  rfl

/-- Settles O48: the invariant is that of `Channel.reset` in every channel, and both sides of the identity are 0. -/
theorem resetStateMeetsInvariants : Obligations.ResetStateMeetsInvariants :=
  ⟨hardware_legal, fun _ hlegal => ⟨⟨hlegal, Block.inv_reset hlegal⟩, (accounted_iff _).mpr Block.accounted_reset⟩⟩

/-! ## Idle until CTRL is written (R292) -/

theorem Block.idle_reset : Block.reset.Idle := ⟨rfl, rfl, rfl⟩

/-- A take, a visit, a transform or a pop turn of an idle block passes: CTRL.EN = 0 keeps the decoders and the scheduler
from a step, xbusy = 0 the transform unit, and an empty OUTQ the consumer. -/
theorem State.nextEvent_eq_none_of_idle {s : State} {rest : List Stimulus} (hidle : s.hw.Idle)
    (hturn : s.env.stim = .visit :: rest ∨ s.env.stim = .xf :: rest ∨ s.env.stim = .pop :: rest
      ∨ ∃ c, s.env.stim = .take c :: rest) : s.nextEvent = none := by
  obtain ⟨hen, hbusy, hq⟩ := hidle
  obtain ⟨htake, hvisit, hxf, hpop⟩ := agentsWithoutAStep s rest
  obtain hturn | hturn | hturn | ⟨c, hturn⟩ := hturn
  · exact (hvisit hturn).mpr (.inl hen)
  · exact (hxf hturn).mpr (.inl hbusy)
  · exact (hpop hturn).mpr hq
  · exact (htake c hturn).mpr (.inr (.inl hen))

/-- What could end the rest but a write of CTRL has no step in an idle block: a dispatch needs CTRL.EN = 1
(44_scheduler.md R190), and the transform unit a latched packet (R200). -/
theorem BlockStep.idle {s : State} {i : Instr} {b : Block} (h : BlockStep s i b) (hidle : s.hw.Idle)
    (hctrl : ∀ d, i ≠ .wrCtrl d) : b.Idle := by
  obtain ⟨hen, hbusy, hq⟩ := hidle
  cases h with
  | wrCtrl d => exact absurd rfl (hctrl d)
  | visitDispatch hforms =>
    obtain ⟨hen', -⟩ := (s.visitForms_iff ..).mp hforms
    rw [hen] at hen'; cases hen'
  | xfReject hforms | xfAccept hforms =>
    obtain ⟨hbusy', -⟩ := (s.xfForms_iff _).mp hforms
    rw [hbusy] at hbusy'; cases hbusy'
  | outPop => exact ⟨hen, hbusy, congrArg List.tail hq⟩
  | reset => exact Block.idle_reset
  | _ => exact ⟨hen, hbusy, hq⟩

/-- Settles O10: a step changes the block as `BlockStep` says, or the turn passes and it stays. -/
theorem idleFromResetUntilCtrlIsWritten : Obligations.IdleFromResetUntilCtrlIsWritten := by
  refine ⟨Block.idle_reset, fun s rest => State.nextEvent_eq_none_of_idle, fun s t hidle hstep hnext => ?_⟩
  obtain ⟨i, hi, -, hb, -⟩ | ⟨hhw, -⟩ := step_effect hstep
  · exact hb.idle hidle fun d he => hnext d (he ▸ hi)
  · rw [hhw]; exact hidle

end Sys2Proof.Machine
